-- ==== Sys2Proof/Word.lean ====
section
/-! DEFINITION. The word types of ANY-1 v3: 64-bit register values, bytes, 36-bit instruction words (R5, R9). -/

namespace Sys2Proof

/-- A register value: 64 bits, arithmetic modulo 2^64 (R9). -/
abbrev Word := BitVec 64

/-- A byte of memory (R80). -/
abbrev Byte := BitVec 8

/-- An instruction word: 36 bits (R120). -/
abbrev Code := BitVec 36

/-- The number of a scalar or vector register (R30, R38). -/
abbrev RegNo := BitVec 5

/-- The number of a vector mask register (R40). -/
abbrev MaskNo := BitVec 3

end Sys2Proof
end

