-- ==== Sys2Proof/Config.lean ====
section
/-! DEFINITION. What an implementation fixes and what the spec leaves free (R6). The plain-data parameters are the
fields of `Params`, held in the state and changed by no step; the results the spec leaves open are opaque functions, so
that nothing can be proved of their values. -/

namespace Sys2Proof

/-- Operating modes, in order of privilege (R44). -/
inductive Mode where
  | user | supervisor | hypervisor | machine | debug
  deriving DecidableEq, Repr

/-- The mode's number (R44): user 0 to debug 4. -/
def Mode.index : Mode → Fin 5
  | .user => 0
  | .supervisor => 1
  | .hypervisor => 2
  | .machine => 3
  | .debug => 4

/-- The mode of a number. -/
def Mode.ofIndex : Fin 5 → Mode
  | 0 => .user
  | 1 => .supervisor
  | 2 => .hypervisor
  | 3 => .machine
  | 4 => .debug

/-- The kinds of access that `translate` tells apart (R102). -/
inductive Access where
  | read | write | fetch
  deriving DecidableEq, Repr

/-- The division operations whose corner cases are open (R226, R322). -/
inductive DivOp where
  | div | divr | divu | rem | remu
  deriving DecidableEq, Repr

/-- A free value: the result of a division corner for an operation, a dividend and a divisor (R226 (c)); log 7. -/
opaque Config.divCorner : DivOp → Word → Word → Word

/-- A free value: the word an empty queue gives, a fresh one for each counter value (R512, R513); log 6. -/
opaque Config.freeWord : Nat → Word

/-- A free value: the floating-point sum under a rounding mode, or the default mode for `none` (R331, R332); log 8. -/
opaque Config.fpAdd : Option (BitVec 3) → Word → Word → Word

/-- A free value: the floating-point difference (R331, R341); log 8. -/
opaque Config.fpSub : Option (BitVec 3) → Word → Word → Word

/-- A free value: the floating-point product (R331, R342); log 8. -/
opaque Config.fpMul : Option (BitVec 3) → Word → Word → Word

/-- A free value: the floating-point quotient (R331, R343); log 8. -/
opaque Config.fpDiv : Option (BitVec 3) → Word → Word → Word

/-- A free value: the floating-point square root (R331, R338); log 8. -/
opaque Config.fpSqrt : Option (BitVec 3) → Word → Word

/-- A free value: the fused dot product a*b + c*d with one rounding (R331, R344); log 8. -/
opaque Config.fpFdp : Option (BitVec 3) → Word → Word → Word → Word → Word

/-- A free value: `translate` (R102) as any function of the address, the kind of access, the mode and the TLB, one for
each number; `none` refuses; log 22. -/
opaque Config.translateBy : Nat → Word → Access → Mode → List (Nat × Word) → Option Word

/-- What a CSR number can name (R50, R503): a register that the instruction pages name, a register of the number's own, or
a read and a write function of the state of which nothing is known (`Config.csrReadBy`, `Config.csrWriteBy`); log 1. -/
inductive CsrReg where
  | pmstack
  | eip
  | vl
  | semaphores
  | semaphore (n : BitVec 6)
  | dcacheEnable
  | cause (m : Mode)
  | badaddr (m : Mode)
  | tvec (m : Mode)
  | own (n : BitVec 14)
  | other (n : BitVec 14)
  deriving DecidableEq, Repr

/-- What a write to a CSR does (R502: whether a write to a read-only register raises is left to csr_map). -/
inductive CsrWrite where
  | writes
  | ignored
  | raises
  deriving DecidableEq, Repr

/-- One entry of csr_map (R503): what is read and written, the bits a read shows and a write reaches, what a write does,
and whether set and clear are supported. -/
structure CsrDesc where
  reg : CsrReg
  readMask : Word
  writeMask : Word
  onWrite : CsrWrite
  setClear : Bool
  deriving DecidableEq, Repr

/-- The treatment of a misaligned data access (R88). -/
inductive Misaligned where
  | refuse
  | splitLittleEndian
  deriving DecidableEq, Repr

/-- The treatment of TLBRW and CACHE below machine mode (R652). -/
inductive SysPriv where
  | refuse
  | allow
  | trap
  deriving DecidableEq, Repr

/-- `translate` (R102): the identity, the TLB array with a current address space identifier (log 22), or the function of
address, kind of access, mode and TLB that `Config.translateBy` gives for a number. -/
inductive Translation where
  | identity
  | tlb (asid : BitVec 8)
  | other (n : Nat)
  deriving DecidableEq, Repr

/-- `rex_enabled` (R520): a bit for each of the modes 0 to 3, or the function of the state and the mode that
`Config.rexEnabledBy` gives for a number. -/
inductive RexRule where
  | table (enabled : Vector Bool 4)
  | other (n : Nat)
  deriving DecidableEq, Repr

/-- A range of byte addresses (R91). -/
structure Region where
  base : Nat
  size : Nat
  deriving DecidableEq, Repr

/-- The open parameters of R6 that are plain data. -/
structure Params where
  /-- VLMAX (R6, R552). -/
  vlmax : Nat
  /-- QUEUE_WIDTH N (R6). -/
  queueWidth : Nat
  /-- QUEUE_DEPTH (R6). -/
  queueDepth : Nat
  /-- pm_decode on every entry but 10, which is (debug, disabled) (R43). -/
  pmTable : Vector (Mode × Bool) 16
  /-- pm_encode of modes 0 to 3 with interrupts disabled (R651, R520). -/
  pmEncode : Vector (BitVec 4) 4
  /-- cause_code of UnimplementedInstruction (R612). -/
  causeUnimplemented : Byte
  /-- cause_code of BoundsCheck (R612). -/
  causeBoundsCheck : Byte
  /-- cause_code of PrivilegeViolation (R612). -/
  causePrivilege : Byte
  /-- csr_map (R503). -/
  csrMap : List (BitVec 14 × CsrDesc)
  /-- translate (R102). -/
  translate : Translation
  /-- misaligned (R88). -/
  misaligned : Misaligned
  /-- rex_enabled (R520). -/
  rexEnabled : RexRule
  /-- sys_priv (R652). -/
  sysPriv : SysPriv
  /-- Which physical byte addresses are memory (R91). -/
  backed : List Region
  /-- Which physical byte addresses are devices (R91). -/
  mmio : List Region
  /-- The bytes an invalidated instruction-cache line covers (R671). -/
  icacheLine : Nat
  deriving DecidableEq, Repr

/-- pm_decode (R43): the mode and the interrupt-enable bit of a PMSTACK entry. -/
def Params.pmDecode (p : Params) (e : BitVec 4) : Mode × Bool :=
  if e = 10#4 then (.debug, false) else p.pmTable[e.toNat]'e.isLt

/-- What the spec asks of the parameters: 1 <= VLMAX <= 128 (R552), 1 <= N <= 64 and a depth of at most 1023 (R6),
pm_encode inverse to pm_decode on modes 0 to 3 (R651), a line of at least one byte. -/
def Params.wf (p : Params) : Bool :=
  decide (1 ≤ p.vlmax) && decide (p.vlmax ≤ 128) && decide (1 ≤ p.queueWidth) && decide (p.queueWidth ≤ 64) &&
    decide (p.queueDepth ≤ 1023) && decide (1 ≤ p.icacheLine) &&
    p.pmDecode p.pmEncode[0] == (.user, false) && p.pmDecode p.pmEncode[1] == (.supervisor, false) &&
    p.pmDecode p.pmEncode[2] == (.hypervisor, false) && p.pmDecode p.pmEncode[3] == (.machine, false)

/-- The parameters at reset. DESIGN CHOICE, log 2: unsafe where a claim leans on one of these values. -/
def Params.reset : Params where
  vlmax := 64
  queueWidth := 64
  queueDepth := 1023
  pmTable := #v[(.user, false), (.user, true), (.supervisor, false), (.supervisor, true), (.hypervisor, false),
    (.hypervisor, true), (.machine, false), (.machine, true), (.debug, false), (.debug, true), (.debug, false),
    (.debug, true), (.debug, false), (.debug, true), (.debug, false), (.debug, true)]
  pmEncode := #v[0#4, 2#4, 4#4, 6#4]
  causeUnimplemented := 1#8
  causeBoundsCheck := 2#8
  causePrivilege := 3#8
  csrMap := []
  translate := .identity
  misaligned := .refuse
  rexEnabled := .table #v[true, true, true, true]
  sysPriv := .refuse
  backed := [{ base := 0, size := 2 ^ 64 }]
  mmio := []
  icacheLine := 64

end Sys2Proof
end

