-- ==== Sys2Proof/Machine/Bits.lean ====
section
/-! DEFINITION. Bit operations on words: extension of constants (R9, R132, R133, R155), counting and searching bits,
bit fields (R219), bit matrices (R207), byte permutation (R263), integer square root (R292), pixel blending (R400). -/

namespace Sys2Proof.Machine

/-- `sext_N` of the low bits of a vector (R9). -/
def sext {n : Nat} (x : BitVec n) : Word := x.signExtend 64

/-- `zext_N` (R9). -/
def zext {n : Nat} (x : BitVec n) : Word := x.setWidth 64

/-- `oext_16`: bits 63:16 set to one (R9, R205). -/
def oext (x : BitVec 16) : Word := 0xFFFFFFFFFFFF0000#64 ||| x.setWidth 64

/-- How an instruction reads a six-bit constant operand (R132, R133). -/
inductive ConstKind where
  | signed
  | unsigned
  | float
  deriving DecidableEq, Repr

/-- A six-bit float constant as a double: sign 0, biased exponent 1020 + e, fraction s << 49 (R133). -/
def floatConst (c : BitVec 6) : Word :=
  ((1020#64 + (c.extractLsb' 3 3).setWidth 64) <<< 52) ||| ((c.extractLsb' 0 3).setWidth 64 <<< 49)

/-- The value of a six-bit constant operand. -/
def constValue : ConstKind → BitVec 6 → Word
  | .signed, c => sext c
  | .unsigned, c => zext c
  | .float, c => floatConst c

/-- The bit vector whose bit `i` is `f i`. -/
def bitsOf : (n : Nat) → (Nat → Bool) → BitVec n
  | 0, _ => 0#0
  | n + 1, f => BitVec.cons (f n) (bitsOf n f)

/-- The number of ones (R216, R578). -/
def popCount {n : Nat} (x : BitVec n) : Nat := ((List.range n).filter (fun i => x.getLsbD i)).length

/-- The index of the lowest one, if any. -/
def lowestBit? {n : Nat} (x : BitVec n) : Option Nat := (List.range n).find? (fun i => x.getLsbD i)

/-- The number of zeros above the highest one; the width if there is none (R217). -/
def leadingZeros {n : Nat} (x : BitVec n) : Nat :=
  ((List.range n).find? (fun i => x.getLsbD (n - 1 - i))).getD n

/-- The index of the highest one, if any (R230, R563). -/
def highestBit? {n : Nat} (x : BitVec n) : Option Nat :=
  ((List.range n).find? (fun i => x.getLsbD (n - 1 - i))).map (fun i => n - 1 - i)

/-- The index as a word, or -1 where there is none (R211, R230). -/
def indexOrMinusOne : Option Nat → Word
  | some i => BitVec.ofNat 64 i
  | none => -1#64

/-- The first of `count` fields of width `w` that equals the key, counting from bit 0 (R211, R295, R297). -/
def firstField? (w count : Nat) (x : Word) (key : BitVec w) : Option Nat :=
  (List.range count).find? (fun k => x.extractLsb' (w * k) w == key)

/-- The `w + 1` low ones, `w + 1` from 1 to 64 (R219). -/
def fieldMask (w : BitVec 6) : Word := BitVec.allOnes 64 >>> (63 - w.toNat)

/-- DEP: the `w + 1` low bits of `b` put into `a` at bit `off` (R220). -/
def depositField (a b : Word) (off w : BitVec 6) : Word :=
  (a &&& ~~~(fieldMask w <<< off.toNat)) ||| ((b &&& fieldMask w) <<< off.toNat)

/-- The `w + 1` bits at `off` of the pair {b, a}, zero-extended (R228, R229). -/
def pairField (a b : Word) (off w : BitVec 6) : Word :=
  ((b ++ a : BitVec 128) >>> off.toNat).setWidth 64 &&& fieldMask w

/-- A field of `w + 1` bits sign-extended from its bit `w` (R228). -/
def signField (f : Word) (w : BitVec 6) : Word := (f <<< (63 - w.toNat)).sshiftRight (63 - w.toNat)

/-- FFO: the highest one of the field of `w + 1` bits at `off`, or -1 (R230). -/
def findFirstOne (a : Word) (off w : BitVec 6) : Word :=
  indexOrMinusOne (highestBit? ((a >>> off.toNat) &&& fieldMask w))

/-- SLLP: the upper half of the pair {a, c} shifted left (R279). -/
def shiftPairLeft (a c : Word) (n : BitVec 6) : Word := ((a ++ c : BitVec 128) <<< n.toNat).extractLsb' 64 64

/-- Element (i, j) of an 8 by 8 bit matrix: bit 63 is (0, 0), bit 0 is (7, 7) (R207). -/
def matrixBit (x : Word) (i j : Nat) : Bool := x.getLsbD (63 - 8 * i - j)

/-- BMM: bit matrix product with OR (R207). -/
def matrixMulOr (a b : Word) : Word :=
  bitsOf 64 (fun p => (List.range 8).any
    (fun k => matrixBit a ((63 - p) / 8) k && matrixBit b k ((63 - p) % 8)))

/-- MXOR: bit matrix product with exclusive or (R208). -/
def matrixMulXor (a b : Word) : Word :=
  bitsOf 64 (fun p => (List.range 8).foldl
    (fun acc k => acc ^^ (matrixBit a ((63 - p) / 8) k && matrixBit b k ((63 - p) % 8))) false)

/-- PERM: byte `i` of the result is byte `P[3i+2:3i]` of `a` (R263). -/
def permuteBytes (a p : Word) : Word :=
  bitsOf 64 (fun t => a.getLsbD (8 * (p.extractLsb' (3 * (t / 8)) 3).toNat + t % 8))

/-- The bits of the square root from bit `k - 1` down, added to `acc` where the square still fits. -/
def sqrtBits (x : Nat) : Nat → Nat → Nat
  | 0, acc => acc
  | k + 1, acc => if (acc + 2 ^ k) * (acc + 2 ^ k) ≤ x then sqrtBits x k (acc + 2 ^ k) else sqrtBits x k acc

/-- SQRT: the floor of the square root of the unsigned value (R292). -/
def isqrt (x : Word) : Word := BitVec.ofNat 64 (sqrtBits x.toNat 32 0)

/-- One colour component of BLEND (R400). -/
def blendComponent (a b alpha : BitVec 8) : BitVec 8 :=
  BitVec.ofNat 8 ((a.toNat * alpha.toNat + b.toNat * (255 - alpha.toNat)) / 256)

/-- BLEND of two RGB888 colours; the top byte of the colour word from `a` (R400). -/
def blendPixel (a b c : Word) : Word :=
  let alpha := c.extractLsb' 0 8
  (a.extractLsb' 24 8 ++ blendComponent (a.extractLsb' 16 8) (b.extractLsb' 16 8) alpha ++
    blendComponent (a.extractLsb' 8 8) (b.extractLsb' 8 8) alpha ++
    blendComponent (a.extractLsb' 0 8) (b.extractLsb' 0 8) alpha : BitVec 32).setWidth 64

/-- MULF: the low 24 bits times the low 16 bits, a 40-bit unsigned product (R254). -/
def fastMul (a b : Word) : Word := (a.extractLsb' 0 24).setWidth 64 * (b.extractLsb' 0 16).setWidth 64

/-- DIF: the distance of two signed values, modulo 2^64 (R221). -/
def distance (a b : Word) : Word := if b.sle a then a - b else b - a

/-- Signed quotient, truncated toward zero; zero divisor and -2^63 / -1 are the open corners of `op` (R226). -/
def quotSigned (op : DivOp) (a b : Word) : Word :=
  if b = 0#64 ∨ (a = 0x8000000000000000#64 ∧ b = -1#64) then Config.divCorner op a b else a.sdiv b

/-- Unsigned quotient (R225, R226). -/
def quotUnsigned (op : DivOp) (a b : Word) : Word := if b = 0#64 then Config.divCorner op a b else a.udiv b

/-- Signed remainder, with the sign of the dividend (R226, R322). -/
def remSigned (a b : Word) : Word :=
  if b = 0#64 ∨ (a = 0x8000000000000000#64 ∧ b = -1#64) then Config.divCorner .rem a b else a.srem b

/-- Unsigned remainder (R322). -/
def remUnsigned (a b : Word) : Word := if b = 0#64 then Config.divCorner .remu a b else a.umod b

end Sys2Proof.Machine
end

