-- ==== Sys2Proof/Machine/Flags.lean ====
section
/-! DEFINITION. Comparisons. The machine has no flags register (R37): a comparison's outcome is a value written to a
register or a mask, or the condition of a branch. -/

namespace Sys2Proof.Machine

/-- 1 or 0 (R266). -/
def boolWord (b : Bool) : Word := if b then 1#64 else 0#64

/-- CMP: -1, 0 or 1, signed (R214). -/
def compareSigned (a b : Word) : Word := if a.slt b then -1#64 else if a = b then 0#64 else 1#64

/-- The outcome of a floating-point comparison (R331). -/
inductive FpOrder where
  | lt | eq | gt | unordered
  deriving DecidableEq, Repr

/-- A NaN: exponent all ones, fraction not zero. PRESUMED: IEEE 754 binary64 (R331; log 9). -/
def fpIsNaN (a : Word) : Bool := a.extractLsb' 52 11 == 0x7FF#11 && a.extractLsb' 0 52 != 0#52

/-- The magnitude bits of a double. -/
def fpMagnitude (a : Word) : Nat := (a.extractLsb' 0 63).toNat

/-- The place of a double that is no NaN in the order of the reals; both zeros are 0 (R352). -/
def fpRank (a : Word) : Int := if a.msb then -(fpMagnitude a : Int) else (fpMagnitude a : Int)

/-- `fp.cmp`. PRESUMED: the IEEE 754 binary64 order (R331; log 9). -/
def fpCompare (a b : Word) : FpOrder :=
  if fpIsNaN a || fpIsNaN b then .unordered
  else if fpRank a < fpRank b then .lt
  else if fpRank a = fpRank b then .eq
  else .gt

/-- FCMP: -1.0, 0.0, 1.0, or 2.0 if unordered (R350). -/
def fpCompareWord (a b : Word) : Word :=
  match fpCompare a b with
  | .lt => 0xBFF0000000000000#64
  | .eq => 0#64
  | .gt => 0x3FF0000000000000#64
  | .unordered => 0x4000000000000000#64

/-- FCMPB: bit `i` of the result (R351). -/
def fpCompareBit (a b : Word) (i : Nat) : Bool :=
  match fpCompare a b with
  | .unordered => i == 4 || i == 8
  | o =>
    match i with
    | 0 => o == .eq
    | 1 => o == .lt
    | 2 => o == .lt || o == .eq
    | 3 => decide (fpMagnitude a < fpMagnitude b)
    | 8 => o != .eq
    | 9 => o == .gt || o == .eq
    | 10 => o == .gt
    | 11 => decide (fpMagnitude b ≤ fpMagnitude a)
    | 12 => true
    | 63 => o == .lt
    | _ => false

/-- FCMPB: the bit vector of all comparison outcomes (R351). -/
def fpCompareBits (a b : Word) : Word := bitsOf 64 (fpCompareBit a b)

/-- The integer set-mask condition, none where the code is reserved (R585). -/
def maskCondition (cond : BitVec 3) (a b : Word) : Option Bool :=
  match cond with
  | 0#3 => some (a == b)
  | 1#3 => some (a != b)
  | 2#3 => some (a.slt b)
  | 3#3 => some (a.sle b)
  | _ => none

/-- The float set-mask condition, none where the code is reserved (R586). -/
def fpMaskCondition (cond : BitVec 3) (a b : Word) : Option Bool :=
  match cond with
  | 0#3 => some (fpCompare a b == .eq)
  | 1#3 => some (fpCompare a b != .eq)
  | 2#3 => some (fpCompare a b == .lt)
  | 3#3 => some (fpCompare a b == .lt || fpCompare a b == .eq)
  | _ => none

/-- CHK: whether the checked value lies within the bounds (R479, R481), signed. -/
def withinBounds (cn : BitVec 2) (lower x upper : Word) : Bool :=
  match cn with
  | 0#2 => lower.sle x && x.sle upper
  | 1#2 => lower.slt x && x.sle upper
  | 2#2 => lower.sle x && x.slt upper
  | _ => lower.slt x && x.slt upper

end Sys2Proof.Machine
end

