-- ==== Sys2Proof/Machine/Sparse.lean ====
section
/-! DEFINITION. Sparse contents: a list of (key, value) pairs in one canonical form, keys strictly rising and no value
equal to what an unlisted key reads as. Memory, the vector registers, the TLB and the set of stale code bytes are held
so; equal contents are equal lists. -/

namespace Sys2Proof.Machine

/-- The value at a key: `d` where nothing is listed. -/
def sparseGet {α : Type} (d : α) : List (Nat × α) → Nat → α
  | [], _ => d
  | (k, x) :: t, a => if k = a then x else sparseGet d t a

/-- The contents without a key. -/
def sparseErase {α : Type} : List (Nat × α) → Nat → List (Nat × α)
  | [], _ => []
  | (k, x) :: t, a => if k = a then sparseErase t a else (k, x) :: sparseErase t a

/-- The contents with an entry put before the first larger key. -/
def sparseInsert {α : Type} : List (Nat × α) → Nat → α → List (Nat × α)
  | [], a, v => [(a, v)]
  | (k, x) :: t, a, v => if a < k then (a, v) :: (k, x) :: t else (k, x) :: sparseInsert t a v

/-- The contents with key `a` reading `v`: the entry goes where `v` is what an unlisted key reads as. -/
def sparseSet {α : Type} [DecidableEq α] (d : α) (m : List (Nat × α)) (a : Nat) (v : α) : List (Nat × α) :=
  if v = d then sparseErase m a else sparseInsert (sparseErase m a) a v

/-- The canonical form. -/
def sparseWf {α : Type} [DecidableEq α] (d : α) : List (Nat × α) → Bool
  | [] => true
  | (k, x) :: t => decide (x ≠ d) && t.all (fun c => decide (k < c.1)) && sparseWf d t

/-- The contents after writing `g e` at `key e` for each `e < n` that has a value, in ascending order. -/
def sparseFill {α : Type} [DecidableEq α] (d : α) (m : List (Nat × α)) (key : Nat → Nat) (g : Nat → Option α) :
    Nat → List (Nat × α)
  | 0 => m
  | n + 1 =>
    match g n with
    | some v => sparseSet d (sparseFill d m key g n) (key n) v
    | none => sparseFill d m key g n

end Sys2Proof.Machine
end

