-- ==== Sys2Proof/Syntax.lean ====
section
/-! DEFINITION. The instructions of ANY-1 v3: one structure per instruction format, one constructor of `Instr` per row
of the opcode table. A type field of one bit says scalar (false) or vector (true); a type field of two bits is 0 scalar,
1 vector, 2 or 3 six-bit constant (R131). A constructor of an alias holds the fields of the core instruction's word. -/

namespace Sys2Proof

/-- R1 format (R128): one source, with the vector mask `m3` and zeroing bit `z` of its own. -/
structure R1F where
  m3 : MaskNo
  z : Bool
  ta : Bool
  ra : RegNo
  tt : Bool
  rt : RegNo
  v : Bool
  deriving DecidableEq, Repr

/-- R2 format (R129), and the last word of an R3 or R4 instruction (R130). -/
structure R2F where
  tb : BitVec 2
  rb : RegNo
  ta : Bool
  ra : RegNo
  tt : Bool
  rt : RegNo
  v : Bool
  deriving DecidableEq, Repr

/-- R2 layout with a six-bit count in bits 25:20 (R277, R279). -/
structure ShiftF where
  imm6 : BitVec 6
  ta : Bool
  ra : RegNo
  tt : Bool
  rt : RegNo
  v : Bool
  deriving DecidableEq, Repr

/-- Set-mask comparison (R585): condition in bits 13:11, target mask in bits 10:8. -/
structure SetMaskF where
  tb : BitVec 2
  rb : RegNo
  ta : Bool
  ra : RegNo
  cond : BitVec 3
  vmt : MaskNo
  deriving DecidableEq, Repr

/-- RI format (R127). -/
structure RIF where
  imm16 : BitVec 16
  ta : Bool
  ra : RegNo
  tt : Bool
  rt : RegNo
  v : Bool
  deriving DecidableEq, Repr

/-- The operands of an alias that fixes every other field of its word (NEG, SIGN; R259, R276). -/
structure RtF where
  ta : Bool
  ra : RegNo
  tt : Bool
  rt : RegNo
  v : Bool
  deriving DecidableEq, Repr

/-- CHK, register form (R481). -/
structure ChkRF where
  tb : BitVec 2
  rb : RegNo
  ta : Bool
  ra : RegNo
  cn : BitVec 2
  v : Bool
  deriving DecidableEq, Repr

/-- CHK, immediate form (R479). -/
structure ChkIF where
  imm16 : BitVec 16
  ta : Bool
  ra : RegNo
  cn : BitVec 2
  v : Bool
  deriving DecidableEq, Repr

/-- BYTNDX, register form (R151). -/
structure BytRF where
  tb : BitVec 2
  rb : RegNo
  ta2 : BitVec 2
  ra : RegNo
  tt2 : BitVec 2
  rt : RegNo
  v : Bool
  deriving DecidableEq, Repr

/-- BYTNDX, immediate form (R151). -/
structure BytIF where
  imm10 : BitVec 10
  ta2 : BitVec 2
  ra : RegNo
  tt2 : BitVec 2
  rt : RegNo
  v : Bool
  deriving DecidableEq, Repr

/-- CSR format (R147). -/
structure CsrF where
  regno : BitVec 14
  ta2 : BitVec 2
  ra : RegNo
  rt : RegNo
  deriving DecidableEq, Repr

/-- BR format (R134); `disp15` is the assembled displacement of R157. -/
structure BrF where
  disp15 : BitVec 15
  tb : BitVec 2
  rb : RegNo
  ta : Bool
  ra : RegNo
  deriving DecidableEq, Repr

/-- IMOD and BTFLD format (R136, R137). -/
structure ImodF where
  rm : BitVec 3
  tc : BitVec 2
  rc : RegNo
  td : BitVec 2
  rd : RegNo
  a : BitVec 2
  m3 : MaskNo
  z : Bool
  deriving DecidableEq, Repr

/-- BRMOD format (R138). -/
structure BrmodF where
  c15 : BitVec 15
  tc : BitVec 2
  rc : RegNo
  tt : Bool
  rt : RegNo
  deriving DecidableEq, Repr

/-- STRIDE format (R140). -/
structure StrideF where
  c14 : BitVec 14
  tc : BitVec 2
  rc : RegNo
  a : BitVec 2
  m3 : MaskNo
  z : Bool
  deriving DecidableEq, Repr

/-- LD format without its size field (R141). -/
structure LdF where
  disp12 : BitVec 12
  ta : Bool
  ra : RegNo
  tt : Bool
  rt : RegNo
  deriving DecidableEq, Repr

/-- LDX format without its size field (R142). -/
structure LdxF where
  sc : BitVec 3
  tb : BitVec 2
  rb : RegNo
  ta : Bool
  ra : RegNo
  tt : Bool
  rt : RegNo
  deriving DecidableEq, Repr

/-- CACHE format (R153). -/
structure CacheF where
  disp12 : BitVec 12
  ta : Bool
  ra : RegNo
  dc3 : BitVec 3
  ic3 : BitVec 3
  deriving DecidableEq, Repr

/-- ST format without its size field (R143); `disp11` is the assembled displacement of R158. -/
structure StF where
  disp11 : BitVec 11
  tb : BitVec 2
  rb : RegNo
  ta : Bool
  ra : RegNo
  deriving DecidableEq, Repr

/-- STX format without its size field (R144). -/
structure StxF where
  sc : BitVec 3
  tb : BitVec 2
  rb : RegNo
  ta : Bool
  ra : RegNo
  deriving DecidableEq, Repr

/-- LEA, the operands of R430; it has no word in this version. -/
structure LeaF where
  disp : Word
  size : BitVec 4
  sc : BitVec 3
  tb : BitVec 2
  rb : RegNo
  ta : Bool
  ra : RegNo
  tt : Bool
  rt : RegNo
  deriving DecidableEq, Repr

/-- LEA, the vector forms of R431 (strided, or indexed by a vector register); they have no word in this version. -/
structure LeaVF where
  indexed : Bool
  disp : Word
  m3 : MaskNo
  z : Bool
  rb : RegNo
  ra : RegNo
  rt : RegNo
  deriving DecidableEq, Repr

/-- JALR format (R146). -/
structure JalrF where
  c14 : BitVec 14
  ta2 : BitVec 2
  ra : RegNo
  cnst5 : BitVec 5
  rt2 : BitVec 2
  deriving DecidableEq, Repr

/-- SYS format (R152): three six-bit fields, each a register spec or an immediate. -/
structure SysF where
  rb6 : BitVec 6
  ra6 : BitVec 6
  rt6 : BitVec 6
  deriving DecidableEq, Repr

/-- VM format, three mask registers (R149). -/
structure Vm3F where
  vmb : MaskNo
  vma : MaskNo
  vmt : MaskNo
  deriving DecidableEq, Repr

/-- VM format, a mask register and an immediate count (R149). -/
structure VmShiftF where
  imm6 : BitVec 6
  vma : MaskNo
  vmt : MaskNo
  deriving DecidableEq, Repr

/-- VM format, a mask register read into a scalar target (R149). -/
structure VmGetF where
  vm : MaskNo
  tt2 : BitVec 2
  rt : RegNo
  deriving DecidableEq, Repr

/-- VM format, a scalar source written to a mask register (R149). -/
structure VmPutF where
  ta2 : BitVec 2
  ra : RegNo
  vmt : MaskNo
  deriving DecidableEq, Repr

/-- VM format, a scalar source written to VL (R566). -/
structure VlPutF where
  ta2 : BitVec 2
  ra : RegNo
  deriving DecidableEq, Repr

/-- VM format, VL read into a scalar target (R567). -/
structure VlGetF where
  tt2 : BitVec 2
  rt : RegNo
  deriving DecidableEq, Repr

/-- The instruction words of ANY-1 v3. Each constructor's comment gives the mnemonic of its row and the rule that
describes it. A modifier word is a constructor of its own: the bundle of R11 is a run of these. A row that the spec
only names, or whose operand bits are ignored, has no arguments; such constructors stand last. -/
inductive Instr where
  /-- BRK: R500. -/
  | brk (cause : BitVec 8)
  /-- CNTLZ: R217. -/
  | cntlz (f : R1F)
  /-- CNTLO: R310. -/
  | cntlo (f : R1F)
  /-- CNTPOP: R216. -/
  | cntpop (f : R1F)
  /-- COM: R218. -/
  | com (f : R1F)
  /-- NOT: R260. -/
  | notL (f : R1F)
  /-- NEG: R259. -/
  | neg (f : R1F)
  /-- ABS: R201. -/
  | abs (f : R1F)
  /-- NABS: R258. -/
  | nabs (f : R1F)
  /-- SQRT: R292. -/
  | sqrt (f : R1F)
  /-- ZXB: R302. -/
  | zxb (f : R1F)
  /-- ZXW: R302. -/
  | zxw (f : R1F)
  /-- ZXT: R302. -/
  | zxt (f : R1F)
  /-- SXB: R311. -/
  | sxb (f : R1F)
  /-- SXW: R311. -/
  | sxw (f : R1F)
  /-- SXT: R311. -/
  | sxt (f : R1F)
  /-- V2BITS: R580. -/
  | v2bits (f : R1F)
  /-- VBITS2V: R581. -/
  | vbits2v (f : R1F)
  /-- VCMPRSS: R582. -/
  | vcmprss (f : R1F)
  /-- VCIDX: R583. -/
  | vcidx (f : R1F)
  /-- VSCAN: R584. -/
  | vscan (f : R1F)
  /-- AND: R206. -/
  | andR (f : R2F)
  /-- OR: R262. -/
  | orR (f : R2F)
  /-- XOR: R301. -/
  | xorR (f : R2F)
  /-- ADD: R203. -/
  | addR (f : R2F)
  /-- SUB: R293. -/
  | sub (f : R2F)
  /-- MUL: R253. -/
  | mulR (f : R2F)
  /-- NAND: R312. -/
  | nand (f : R2F)
  /-- NOR: R312. -/
  | nor (f : R2F)
  /-- XNOR: R312. -/
  | xnor (f : R2F)
  /-- MULF: R254. -/
  | mulfR0D (f : R2F)
  /-- MULU: R256. -/
  | muluR (f : R2F)
  /-- DIV: R223. -/
  | divR (f : R2F)
  /-- DIVU: R225. -/
  | divuR (f : R2F)
  /-- REM: R322. -/
  | remR (f : R2F)
  /-- REMU: R322. -/
  | remuR (f : R2F)
  /-- PERM: R264. -/
  | permR (f : R2F)
  /-- DIF: R221. -/
  | dif (f : R2F)
  /-- SLL: R277. -/
  | sll (f : R2F)
  /-- SLLI: R277. -/
  | slli (f : ShiftF)
  /-- WYDNDX: R297. -/
  | wydndxR (f : R2F)
  /-- MULF: R254. -/
  | mulfR (f : R2F)
  /-- CMP: R214. -/
  | cmp (f : R2F)
  /-- SRL: R278. -/
  | srl (f : R2F)
  /-- SRLI: R278. -/
  | srli (f : ShiftF)
  /-- U21NDX: R295. -/
  | u21ndxR (f : R2F)
  /-- SEQ: R267. -/
  | seqR (f : R2F)
  /-- SNE: R268. -/
  | sneR (f : R2F)
  /-- MIN: R251. -/
  | min (f : R2F)
  /-- MAX: R250. -/
  | max (f : R2F)
  /-- SLT: R269. -/
  | sltR (f : R2F)
  /-- SGE: R273. -/
  | sge (f : R2F)
  /-- SLTU: R270. -/
  | sltuR (f : R2F)
  /-- SGEU: R274. -/
  | sgeu (f : R2F)
  /-- BMM: R207. -/
  | bmm (f : R2F)
  /-- MXOR: R208. -/
  | mxorB (f : R2F)
  /-- SETM: R585. -/
  | setm (f : SetMaskF)
  /-- VSLLV: R600. -/
  | vsllv (f : R2F)
  /-- VSRLV: R601. -/
  | vsrlv (f : R2F)
  /-- VEX: R588. -/
  | vex (f : R2F)
  /-- VEINS: R587. -/
  | veins (f : R2F)
  /-- RD_COEFF: R403. -/
  | rdCoeff (f : R2F)
  /-- WR_COEFF: R403. -/
  | wrCoeff (f : R2F)
  /-- MUX: R257. -/
  | mux (f : R2F)
  /-- SLLP: R279. -/
  | sllp (f : R2F)
  /-- SLLPI: R279. -/
  | sllpi (f : ShiftF)
  /-- PTRDIF: R265. -/
  | ptrdif (f : R2F)
  /-- CHK__register_form: R481. -/
  | chkR (f : ChkRF)
  /-- BLEND: R400. -/
  | blend (f : R2F)
  /-- ADD: R202. -/
  | addI (f : RIF)
  /-- SUBF: R294. -/
  | subf (f : RIF)
  /-- MUL: R252. -/
  | mulI (f : RIF)
  /-- AND: R205. -/
  | andI (f : RIF)
  /-- OR: R261. -/
  | orI (f : RIF)
  /-- XOR: R300. -/
  | xorI (f : RIF)
  /-- MULU: R256. -/
  | muluI (f : RIF)
  /-- DIV: R222. -/
  | divI (f : RIF)
  /-- DIVU: R225. -/
  | divuI (f : RIF)
  /-- MULF: R255. -/
  | mulfI (f : RIF)
  /-- PERM: R263. -/
  | permI (f : RIF)
  /-- REM: R322. -/
  | remI (f : RIF)
  /-- REMU: R322. -/
  | remuI (f : RIF)
  /-- WYDNDX: R297. -/
  | wydndxI (f : RIF)
  /-- DIVR: R224. -/
  | divr (f : RIF)
  /-- U21NDX: R295. -/
  | u21ndxI (f : RIF)
  /-- SEQ: R267. -/
  | seqI (f : RIF)
  /-- SNE: R268. -/
  | sneI (f : RIF)
  /-- SLT: R269. -/
  | sltI (f : RIF)
  /-- SGT: R271. -/
  | sgtI (f : RIF)
  /-- SLTU: R270. -/
  | sltuI (f : RIF)
  /-- SGTU: R272. -/
  | sgtuI (f : RIF)
  /-- CHK__immediate_form: R479. -/
  | chkI (f : ChkIF)
  /-- CSRx: R501. -/
  | csrx (op2 : BitVec 2) (f : CsrF)
  /-- CSRR: R501. -/
  | csrr (f : CsrF)
  /-- CSRW: R501. -/
  | csrw (f : CsrF)
  /-- CSRS: R501. -/
  | csrs (f : CsrF)
  /-- CSRC: R501. -/
  | csrc (f : CsrF)
  /-- BYTNDX__register_form: R211. -/
  | bytndxR (f : BytRF)
  /-- BYTNDX__immediate_form: R212. -/
  | bytndxI (f : BytIF)
  /-- DEP: R220. -/
  | dep (f : R2F)
  /-- EXT: R228. -/
  | ext (f : R2F)
  /-- EXTU: R229. -/
  | extu (f : R2F)
  /-- FFO: R230. -/
  | ffo (f : R2F)
  /-- FABS__decimal-float_form: R336. -/
  | dfabs (f : R1F)
  /-- FMOV: R335. -/
  | fmov (f : R1F)
  /-- FSQRT: R338. -/
  | fsqrt (f : R1F)
  /-- FABS: R336. -/
  | fabs (f : R1F)
  /-- FNABS: R337. -/
  | fnabs (f : R1F)
  /-- FNEG: R339. -/
  | fneg (f : R1F)
  /-- FMIN: R345. -/
  | fmin (f : R2F)
  /-- FMAX: R346. -/
  | fmax (f : R2F)
  /-- FADD: R340. -/
  | fadd (f : R2F)
  /-- FSUB: R341. -/
  | fsub (f : R2F)
  /-- FMUL: R342. -/
  | fmul (f : R2F)
  /-- FDIV: R343. -/
  | fdiv (f : R2F)
  /-- FCMP: R350. -/
  | fcmp (f : R2F)
  /-- FSEQ: R352. -/
  | fseq (f : R2F)
  /-- FSLT: R353. -/
  | fslt (f : R2F)
  /-- FSLE: R354. -/
  | fsle (f : R2F)
  /-- FSNE: R355. -/
  | fsne (f : R2F)
  /-- FCMPB: R351. -/
  | fcmpb (f : R2F)
  /-- FSETM: R586. -/
  | fsetm (f : SetMaskF)
  /-- FDP: R344. -/
  | fdp (f : R2F)
  /-- MAND: R570. -/
  | mand (f : Vm3F)
  /-- MOR: R571. -/
  | morM (f : Vm3F)
  /-- MXOR: R572. -/
  | mxorM (f : Vm3F)
  /-- MADD: R573. -/
  | madd (f : Vm3F)
  /-- MSUB: R574. -/
  | msub (f : Vm3F)
  /-- MSLL: R575. -/
  | msll (f : VmShiftF)
  /-- MSRL: R576. -/
  | msrl (f : VmShiftF)
  /-- MNAND: R577. -/
  | mnand (f : Vm3F)
  /-- MNOR: R577. -/
  | mnor (f : Vm3F)
  /-- MXNOR: R577. -/
  | mxnor (f : Vm3F)
  /-- MFILL: R561. -/
  | mfill (f : VmPutF)
  /-- MPOP: R578. -/
  | mpop (f : VmGetF)
  /-- MFIRST: R562. -/
  | mfirst (f : VmGetF)
  /-- MLAST: R563. -/
  | mlast (f : VmGetF)
  /-- MTM: R564. -/
  | mtm (f : VmPutF)
  /-- MFM: R565. -/
  | mfm (f : VmGetF)
  /-- MTVL: R566. -/
  | mtvl (f : VlPutF)
  /-- MFVL: R567. -/
  | mfvl (f : VlGetF)
  /-- CNTLZ__mask_register_form: R579. -/
  | cntlzM (f : VmGetF)
  /-- NOP: R173. -/
  | nop (v : Bool)
  /-- BLT: R465. -/
  | blt (f : BrF)
  /-- BGE: R466. -/
  | bge (f : BrF)
  /-- BLTU: R467. -/
  | bltu (f : BrF)
  /-- BGEU: R468. -/
  | bgeu (f : BrF)
  /-- BBS: R469. -/
  | bbs (f : BrF)
  /-- BEQ: R463. -/
  | beq (f : BrF)
  /-- BNE: R464. -/
  | bne (f : BrF)
  /-- vector_branch_space: R460. -/
  | vectorBranch (sel : BitVec 3)
  /-- EXI0: R183. -/
  | exi0 (payload : BitVec 28)
  /-- EXI1: R183. -/
  | exi1 (payload : BitVec 28)
  /-- EXI2: R183. -/
  | exi2 (payload : BitVec 28)
  /-- IMOD: R184. -/
  | imod (f : ImodF)
  /-- BTFLD: R186. -/
  | btfld (f : ImodF)
  /-- BRMOD: R187. -/
  | brmod (f : BrmodF)
  /-- STRIDE: R188. -/
  | stride (f : StrideF)
  /-- LDx: R412. -/
  | ldx (func4 : BitVec 4) (f : LdF)
  /-- LDxZ: R413. -/
  | ldxZ (func4 : BitVec 4) (f : LdF)
  /-- LDxX: R414. -/
  | ldxX (func4 : BitVec 4) (f : LdxF)
  /-- LDxXZ: R415. -/
  | ldxXZ (func4 : BitVec 4) (f : LdxF)
  /-- LDB: R416. -/
  | ldb (f : LdF)
  /-- LDBX: R416. -/
  | ldbx (f : LdxF)
  /-- LDBZ: R417. -/
  | ldbz (f : LdF)
  /-- LDBXZ: R417. -/
  | ldbxz (f : LdxF)
  /-- LDW: R418. -/
  | ldw (f : LdF)
  /-- LDWX: R418. -/
  | ldwx (f : LdxF)
  /-- LDWZ: R419. -/
  | ldwz (f : LdF)
  /-- LDWXZ: R419. -/
  | ldwxz (f : LdxF)
  /-- LDT: R420. -/
  | ldt (f : LdF)
  /-- LDTX: R420. -/
  | ldtx (f : LdxF)
  /-- LDTZ: R421. -/
  | ldtz (f : LdF)
  /-- LDTXZ: R421. -/
  | ldtxz (f : LdxF)
  /-- LDO: R422. -/
  | ldo (f : LdF)
  /-- LDOX: R422. -/
  | ldox (f : LdxF)
  /-- LDOZ: R422. -/
  | ldoz (f : LdF)
  /-- LDOXZ: R422. -/
  | ldoxz (f : LdxF)
  /-- CACHE: R410. -/
  | cache (f : CacheF)
  /-- LEA: R430. -/
  | lea (f : LeaF)
  /-- LEA__vector_forms: R431. -/
  | leaV (f : LeaVF)
  /-- STx: R436. -/
  | stx (func4 : BitVec 4) (f : StF)
  /-- STxX: R437. -/
  | stxX (func4 : BitVec 4) (f : StxF)
  /-- STB: R438. -/
  | stb (f : StF)
  /-- STBX: R438. -/
  | stbx (f : StxF)
  /-- STW: R439. -/
  | stw (f : StF)
  /-- STWX: R439. -/
  | stwx (f : StxF)
  /-- STT: R440. -/
  | stt (f : StF)
  /-- STTX: R440. -/
  | sttx (f : StxF)
  /-- STO: R441. -/
  | sto (f : StF)
  /-- STOX: R441. -/
  | stox (f : StxF)
  /-- STPTR: R446. -/
  | stptr (f : StF)
  /-- STPTRX: R446. -/
  | stptrx (f : StxF)
  /-- STBZ: R443. -/
  | stbz (f : StF)
  /-- STWZ: R443. -/
  | stwz (f : StF)
  /-- STTZ: R443. -/
  | sttz (f : StF)
  /-- STOZ: R443. -/
  | stoz (f : StF)
  /-- JAL: R475. -/
  | jal (c26 : BitVec 26) (rt2 : BitVec 2)
  /-- JMP: R475. -/
  | jmp (c26 : BitVec 26)
  /-- BAL: R472. -/
  | bal (c26 : BitVec 26) (rt2 : BitVec 2)
  /-- BRA: R473. -/
  | bra (c26 : BitVec 26)
  /-- BSR: R473. -/
  | bsr (c26 : BitVec 26)
  /-- JALR: R477. -/
  | jalr (f : JalrF)
  /-- PUSH: R511. -/
  | push (f : SysF)
  /-- POP: R512. -/
  | pop (f : SysF)
  /-- PEEK: R513. -/
  | peek (f : SysF)
  /-- STAT: R514. -/
  | stat (f : SysF)
  /-- PUSHI: R511. -/
  | pushi (f : SysF)
  /-- POPI: R512. -/
  | popi (f : SysF)
  /-- PEEKI: R513. -/
  | peeki (f : SysF)
  /-- STATI: R514. -/
  | stati (f : SysF)
  /-- REX: R520. -/
  | rex (f : SysF)
  /-- RTE: R522. -/
  | rte (f : SysF)
  /-- TLBRW: R524. -/
  | tlbrw (f : SysF)
  /-- other__SYS__function_codes: R538. -/
  | sysOther (func7 : BitVec 7) (f : SysF)
  /-- LDS: R591. -/
  | lds (func4 : BitVec 4) (f : LdF)
  /-- LDxVX: R592. -/
  | ldVX (func4 : BitVec 4) (f : LdF)
  /-- CVLDS: R593. -/
  | cvlds (func4 : BitVec 4) (f : LdF)
  /-- CVLDxVX: R594. -/
  | cvldVX (func4 : BitVec 4) (f : LdF)
  /-- STS: R595. -/
  | sts (func4 : BitVec 4) (f : StF)
  /-- STxVX: R596. -/
  | stVX (func4 : BitVec 4) (f : StF)
  /-- CVSTS: R597. -/
  | cvsts (func4 : BitVec 4) (f : StF)
  /-- CVSTxVX: R598. -/
  | cvstVX (func4 : BitVec 4) (f : StF)
  /-- EOR: R227. -/
  | eorR (f : R2F)
  /-- EOR: R227. -/
  | eorI (f : RIF)
  /-- MOR: R207. -/
  | morB (f : R2F)
  /-- NEG__SUBF_form: R259. -/
  | negSubf (f : RtF)
  /-- SRA: R288. -/
  | sra (f : R2F)
  /-- SRLP: R291. -/
  | srlp (f : R2F)
  /-- SGT__register_form: R271. -/
  | sgtR (f : R2F)
  /-- SGTU__register_form: R272. -/
  | sgtuR (f : R2F)
  /-- SLE: R275. -/
  | sle (f : R2F)
  /-- SLEU: R275. -/
  | sleu (f : R2F)
  /-- SIGN: R276. -/
  | sign (f : RtF)
  /-- SIGN: R276. -/
  | signF (f : RtF)
  /-- FSGT: R353. -/
  | fsgt (f : R2F)
  /-- FSGE: R354. -/
  | fsge (f : R2F)
  /-- BGT: R470. -/
  | bgt (f : BrF)
  /-- BLE: R470. -/
  | ble (f : BrF)
  /-- BGTU: R470. -/
  | bgtu (f : BrF)
  /-- BLEU: R470. -/
  | bleu (f : BrF)
  /-- TST (named in a map only): R323. -/
  | tst
  /-- PTRINC (named in a map only): R323. -/
  | ptrinc
  /-- TRANSFORM (no formula): R401. -/
  | transform
  /-- MULH (named in a map only): R323. -/
  | mulh
  /-- DIVSU (named in a map only): R323. -/
  | divsuR
  /-- REMSU (named in a map only): R323. -/
  | remsuR
  /-- MULSU (named in a map only): R323. -/
  | mulsuR
  /-- MULSUH (named in a map only): R323. -/
  | mulsuh
  /-- MULUH (named in a map only): R323. -/
  | muluh
  /-- RGF (named in a map only): R323. -/
  | rgf
  /-- MORT (which matrix is transposed is not said): R209. -/
  | mort
  /-- MXORT (which matrix is transposed is not said): R209. -/
  | mxort
  /-- DIVSU (named in a map only): R323. -/
  | divsuI
  /-- MULSU (named in a map only): R323. -/
  | mulsuI
  /-- REMSU (named in a map only): R323. -/
  | remsuI
  /-- SAND (named in a map only): R323. -/
  | sand
  /-- SOR (named in a map only): R323. -/
  | sor
  /-- SET (named in a map only): R323. -/
  | setGroup
  /-- DF1 (named in a map only): R362. -/
  | df1
  /-- DF2 (named in a map only): R362. -/
  | df2
  /-- PST1 (named in a map only): R362. -/
  | pst1
  /-- PST2 (named in a map only): R362. -/
  | pst2
  /-- DF3 (named in a map only): R323. -/
  | df3
  /-- DF4 (named in a map only): R323. -/
  | df4
  /-- PST3 (named in a map only): R323. -/
  | pst3
  /-- PST4 (named in a map only): R323. -/
  | pst4
  /-- FRSQRTE (named in a map only): R361. -/
  | frsqrte
  /-- FTOI (named in a map only): R361. -/
  | ftoi
  /-- ITOF (named in a map only): R361. -/
  | itof
  /-- FSIGN (named in a map only): R361. -/
  | fsign
  /-- FMAN (named in a map only): R361. -/
  | fman
  /-- FS2D (named in a map only): R361. -/
  | fs2d
  /-- FS2Q (named in a map only): R361. -/
  | fs2q
  /-- FD2Q (named in a map only): R361. -/
  | fd2q
  /-- FSTAT (named in a map only): R333. -/
  | fstat
  /-- ISNAN (named in a map only): R361. -/
  | isnan
  /-- FINITE (named in a map only): R361. -/
  | finite
  /-- FTX (named in a map only): R333. -/
  | ftx
  /-- FCX (named in a map only): R333. -/
  | fcx
  /-- FEX (named in a map only): R333. -/
  | fex
  /-- FDX (named in a map only): R333. -/
  | fdx
  /-- FRM (named in a map only): R333. -/
  | frm
  /-- TRUNC (named in a map only): R361. -/
  | trunc
  /-- FSYNC (named in a map only): R333. -/
  | fsync
  /-- FRES (named in a map only): R361. -/
  | fres
  /-- FSIGMOID (named in a map only): R361. -/
  | fsigmoid
  /-- FD2S (named in a map only): R361. -/
  | fd2s
  /-- FQ2S (named in a map only): R361. -/
  | fq2s
  /-- FQ2D (named in a map only): R361. -/
  | fq2d
  /-- FCLASS (named in a map only): R361. -/
  | fclass1
  /-- UNORD (named in a map only): R361. -/
  | unord
  /-- SCALEB (named in a map only): R361. -/
  | scaleb
  /-- FREM (named in a map only): R361. -/
  | frem
  /-- FNXT (named in a map only): R361. -/
  | fnxt
  /-- FAND (named in a map only): R361. -/
  | fandB
  /-- FOR (named in a map only): R361. -/
  | forB
  /-- CPYSGN (named in a map only): R361. -/
  | cpysgn
  /-- SGNINV (named in a map only): R361. -/
  | sgninv
  /-- SGNAND (named in a map only): R361. -/
  | sgnand
  /-- SGNOR (named in a map only): R361. -/
  | sgnor
  /-- SGNXOR (named in a map only): R361. -/
  | sgnxor
  /-- SGNXNOR (named in a map only): R361. -/
  | sgnxnor
  /-- FCLASS (named in a map only): R361. -/
  | fclass2
  /-- FMA (named in a map only): R360. -/
  | fma
  /-- FMS (named in a map only): R360. -/
  | fms
  /-- FNMA (named in a map only): R360. -/
  | fnma
  /-- FNMS (named in a map only): R360. -/
  | fnms
  /-- FBLT (named in a map only): R480. -/
  | fblt
  /-- FBGE (named in a map only): R480. -/
  | fbge
  /-- DFBLT (named in a map only): R480. -/
  | dfblt
  /-- DFBGE (named in a map only): R480. -/
  | dfbge
  /-- FBEQ (named in a map only): R480. -/
  | fbeq
  /-- FBNE (named in a map only): R480. -/
  | fbne
  /-- EXI3 (undescribed): R190. -/
  | exi3
  /-- EXI4 (undescribed): R190. -/
  | exi4
  /-- unnamed_modifier_5B (undescribed): R190. -/
  | unnamed5B
  /-- vector-half_modifiers_D8..DC (undescribed): R189. -/
  | vectorHalf
  /-- LSM (named in a map only): R450. -/
  | lsm
  /-- RET: R478. -/
  | ret
  /-- LLAL (named in a map only): R530. -/
  | llal
  /-- LLAH (named in a map only): R530. -/
  | llah
  /-- LPAL (named in a map only): R531. -/
  | lpal
  /-- LPAH (named in a map only): R531. -/
  | lpah
  /-- PFI: R518. -/
  | pfi
  /-- WFI: R528. -/
  | wfi
  /-- SETKEY (named in a map only): R532. -/
  | setkey
  /-- SETTO (named in a map only): R533. -/
  | setto
  /-- GETTO (named in a map only): R533. -/
  | getto
  /-- GETZL (named in a map only): R534. -/
  | getzl
  /-- MVSEG (named in a map only): R535. -/
  | mvseg
  /-- SYNC: R526. -/
  | sync
  deriving DecidableEq, Repr

end Sys2Proof
end

