-- ==== Sys2Proof/Machine/State.lean ====
section
/-! DEFINITION. The state of the machine (10_state.md), its faults and refusals, and the state after reset (R660). -/

namespace Sys2Proof.Machine

/-- The one modifier that may stand last before an instruction (R182). -/
inductive ModTail where
  | imod (f : ImodF)
  | btfld (f : ImodF)
  | brmod (f : BrmodF)
  | stride (f : StrideF)
  deriving DecidableEq, Repr

/-- The modifier words read so far of the bundle being executed (R56, R182). -/
structure Mods where
  exi0 : Option (BitVec 28)
  exi1 : Option (BitVec 28)
  exi2 : Option (BitVec 28)
  tail : Option ModTail
  deriving DecidableEq, Repr

/-- No modifier. -/
def Mods.empty : Mods := { exi0 := none, exi1 := none, exi2 := none, tail := none }

/-- One input of the environment (R57, R510, R91): the interrupt request, the contents the hardware gives the trace queue
15, if it writes it, and what the devices' bytes read from now on, if that changes. -/
structure EnvInput where
  irq : Option Byte
  trace : Option (List Word)
  device : Option (List Host.Cell)
  deriving DecidableEq, Repr

/-- The state: everything 10_state.md names, and the model's own fields `csrs`, `device`, `deviceOut`, `mods`, `env`, `free`
and `cfg`. -/
structure State where
  /-- x0 to x31 (R30). -/
  regs : Vector Word 32
  /-- IP, the nybble address of the bundle's first word (R35). -/
  ip : Word
  /-- v0 to v31: element `e` of register `r` at key `32 * e + r`, an unlisted one 0 (R38). -/
  vregs : List (Nat × Word)
  /-- VL (R39). -/
  vl : Word
  /-- vm0 to vm7, of which the low VLMAX bits exist (R40). -/
  vm : Vector (BitVec 128) 8
  /-- PMSTACK (R42). -/
  pmstack : Word
  /-- cause[0..4] (R45). -/
  cause : Vector Word 5
  /-- badaddr[0..4] (R46). -/
  badaddr : Vector Word 5
  /-- EIP (R47). -/
  eip : Word
  /-- tvec[0..4] (R48). -/
  tvec : Vector Word 5
  /-- Semaphore[0..63], one bit each (R49). -/
  sem : BitVec 64
  /-- The registers that csr_map gives numbers of their own, by number, an unlisted one 0 (R503; log 1). -/
  csrs : List (Nat × Word)
  /-- queue[0..63], the head first (R51, R510). -/
  queues : Vector (List Word) 64
  /-- The TLB: entry `e` of way `w` at key `1024 * w + e`, an unlisted one 0 (R52). -/
  tlb : List (Nat × Word)
  /-- dcache_enable (R53). -/
  dcacheEnable : Bool
  /-- coeff[0..12] (R402). -/
  coeff : Vector Word 13
  /-- waiting (R58). -/
  waiting : Bool
  /-- Memory by byte address, an unlisted byte 0 (R80; log 4). -/
  mem : List Host.Cell
  /-- Bytes stored to since an instruction-cache invalidate covered them (R95, R671). -/
  stale : List (Nat × Bool)
  /-- What the bytes of the devices read at present, an unlisted byte 0 (R91; log 37). -/
  device : List Host.Cell
  /-- The bytes stored to devices, the oldest first (R91; log 37). -/
  deviceOut : List Host.Cell
  /-- irq, the environment's present input (R57). -/
  irq : Option Byte
  /-- The environment's later inputs, one per step (log 10). -/
  env : List EnvInput
  /-- How many free values have been used (log 6). -/
  free : Nat
  /-- The modifiers read so far (R56; log 5). -/
  mods : Mods
  /-- The open parameters of R6 (log 1). -/
  cfg : Params
  deriving DecidableEq, Repr

/-- Why the machine stops with a fault: no reason. The spec names no condition that stops the machine with a report; where it
gives no behaviour it says that the model refuses (R10, R91, R613). -/
inductive Fault where
  deriving DecidableEq, Repr

/-- Why the model gives no next state. Every refusal is safe: the spec says that the model refuses there. -/
inductive Refusal where
  /-- The instruction has no meaning yet. Raised by `exec` only. -/
  | notModelled (mnemonic : String)
  /-- An instruction that an opcode map only names (R171 (b), R323, R333, R360 to R362, R450, R480, R530 to R535). -/
  | mapNameOnly
  /-- MORT and MXORT: which matrix is transposed is not said (R209). -/
  | transposeUnspecified
  /-- TRANSFORM: the formula is not given (R401). -/
  | noFormula
  /-- A modifier opcode without a described effect (R135, R139, R189, R190). -/
  | undescribedModifier
  /-- Modifier words in an order the bundle grammar does not have (R182). Raised by the modifiers. -/
  | malformedBundle
  /-- A modifier before an instruction that does not take it (R183, R187, R188). -/
  | modifierMisplaced
  /-- A `Func4` size without a meaning (R86, R590). -/
  | reservedSize
  /-- A scale `Sc3` of 2 or more (R142). -/
  | reservedScale
  /-- A reserved `IC3` or `DC3` (R410). -/
  | reservedCacheCommand
  /-- A condition code of 4 to 7 in SETM or FSETM (R585). -/
  | reservedCondition
  /-- A vector instruction while VL exceeds VLMAX (R552). -/
  | vectorLength
  /-- VEINS or VEX of an element number of VLMAX or more (R587, R588). -/
  | elementIndex
  /-- RD_COEFF or WR_COEFF of a number above 12 (R403). -/
  | coefficientIndex
  /-- PUSH onto a full queue (R511). -/
  | queueFull
  /-- REX to a target that is not a lower mode (R520). -/
  | rexTarget
  /-- CSRS or CSRC on a register that does not support it (R501). -/
  | csrCapability
  /-- CHK with v = 1 (R481). -/
  | vectorCheck
  /-- A misaligned data access under the refuse policy (R88). -/
  | misaligned
  /-- An address with no translation, or without the permission, under TLB translation (R102, R613). -/
  | noTranslation
  /-- A load, store, fetch or vector element access to a physical byte address that neither memory nor a device backs (R91,
  R613). Raised by the memory operations. -/
  | unbackedAddress
  /-- A fetch of a byte stored to and not invalidated since (R95, R671). -/
  | staleCode
  /-- A fetch whose nine nybbles cross address 2^64 (R36). -/
  | fetchPastTop
  /-- TLBRW or CACHE below machine mode under the refuse policy (R652). -/
  | privilegeUnstated
  /-- A vector load or store without a STRIDE word (R590). -/
  | strideMissing
  /-- A STRIDE word whose operand type does not fit the opcode (R590). -/
  | strideMismatch
  /-- CVSTS or CVSTxVX with the zeroing bit in force (R597). -/
  | compressZero
  deriving DecidableEq, Repr

/-- The canonical form of memory: addresses strictly rising, no listed byte equal to 0. -/
def Memory.wf (m : List Host.Cell) : Bool := sparseWf 0#8 m

/-- The machine right after reset (R660, R70). The spec fixes x0, `waiting`, the low PMSTACK entry and the empty queues;
every other value is DESIGN CHOICE (log 3; parameters log 2; memory log 4; environment log 10). -/
def State.reset : State where
  regs := Vector.replicate 32 0#64
  ip := 0#64
  vregs := []
  vl := 0#64
  vm := Vector.replicate 8 0#128
  pmstack := 10#64
  cause := Vector.replicate 5 0#64
  badaddr := Vector.replicate 5 0#64
  eip := 0#64
  tvec := Vector.replicate 5 0#64
  sem := 0#64
  csrs := []
  queues := Vector.replicate 64 []
  tlb := []
  dcacheEnable := false
  coeff := Vector.replicate 13 0#64
  waiting := false
  mem := []
  stale := []
  device := []
  deviceOut := []
  irq := none
  env := []
  free := 0
  mods := Mods.empty
  cfg := Params.reset

end Sys2Proof.Machine

namespace Sys2Proof

/-- A free value: what a CSR that nothing is known of reads in a state (R503); log 1. -/
opaque Config.csrReadBy : BitVec 14 → Machine.State → Word

/-- A free value: what each register that CSRs reach holds after a write to a CSR that nothing is known of (R503); log 1. -/
opaque Config.csrWriteBy : BitVec 14 → Word → Machine.State → CsrReg → Word

/-- A free value: whether exceptions are enabled at a mode in a state (R520); log 38. -/
opaque Config.rexEnabledBy : Nat → Machine.State → Mode → Bool

end Sys2Proof
end

