-- ==== Sys2Proof/Machine/Ops.lean ====
section
/-! DEFINITION. The named operations over the state: registers, vector elements and masks, the instruction pointer,
taking an exception and returning from one, translation and memory, queues, CSRs. -/

namespace Sys2Proof.Machine

/-- The outcome of an instruction or a step. -/
abbrev Out := Host.Outcome State Fault Refusal

/-! ## Scalar registers -/

/-- x[r]; x0 reads as zero (R31). -/
def State.reg (s : State) (r : RegNo) : Word := if r = 0#5 then 0#64 else s.regs[r.toNat]'r.isLt

/-- x[r] <- w; a write to x0 is discarded (R31). -/
def State.setReg (s : State) (r : RegNo) (w : Word) : State :=
  if r = 0#5 then s else { s with regs := s.regs.set r.toNat w r.isLt }

/-! ## Vector registers and masks -/

/-- Where element `e` of vector register `r` is held. -/
def elemKey (r : RegNo) (e : Nat) : Nat := 32 * e + r.toNat

/-- v[r][e] (R38). -/
def State.elem (s : State) (r : RegNo) (e : Nat) : Word := sparseGet 0#64 s.vregs (elemKey r e)

/-- v[r][e] <- w. -/
def State.setElem (s : State) (r : RegNo) (e : Nat) (w : Word) : State :=
  { s with vregs := sparseSet 0#64 s.vregs (elemKey r e) w }

/-- v[r][e] <- w for each `e < n` where `g e` is `some w`; the other elements are unchanged. -/
def State.setElems (s : State) (r : RegNo) (n : Nat) (g : Nat → Option Word) : State :=
  { s with vregs := sparseFill 0#64 s.vregs (elemKey r) g n }

/-- VL as a number of elements. -/
def State.vlen (s : State) : Nat := s.vl.toNat

/-- VL exceeds VLMAX: the model refuses vector instructions (R552). -/
def State.vlTooLong (s : State) : Bool := decide (s.cfg.vlmax < s.vlen)

/-- The bits of a mask register that exist: the low VLMAX of the 128 stored. -/
def maskBits (vlmax : Nat) : BitVec 128 := (1#128 <<< vlmax) - 1#128

/-- vm[m], VLMAX bits (R40). -/
def State.mask (s : State) (m : MaskNo) : BitVec 128 := (s.vm[m.toNat]'m.isLt) &&& maskBits s.cfg.vlmax

/-- vm[m] <- x, VLMAX bits (R40). -/
def State.setMask (s : State) (m : MaskNo) (x : BitVec 128) : State :=
  { s with vm := s.vm.set m.toNat (x &&& maskBits s.cfg.vlmax) m.isLt }

/-! ## Modifiers (40_modifiers.md) -/

/-- The number of modifier words read so far. -/
def Mods.count (m : Mods) : Nat :=
  m.exi0.isSome.toNat + m.exi1.isSome.toNat + m.exi2.isSome.toNat + m.tail.isSome.toNat

/-- No EXI word was read. -/
def Mods.noExi (m : Mods) : Bool := m.exi0.isNone && m.exi1.isNone && m.exi2.isNone

/-- Which modifiers an instruction takes, beside IMOD and BTFLD, whose unused fields are ignored (R184). -/
inductive ModUse where
  /-- None but IMOD and BTFLD. -/
  | plain
  /-- EXI words too (R183). -/
  | extended
  /-- BRMOD too (R187). -/
  | branch
  /-- EXI and STRIDE too (R183, R188). -/
  | vectorMemory
  deriving DecidableEq, Repr

/-- Whether the modifiers read are ones the instruction takes. -/
def Mods.fit (m : Mods) : ModUse → Bool
  | .plain =>
    m.noExi && (match m.tail with | some (.brmod _) | some (.stride _) => false | _ => true)
  | .extended => match m.tail with | some (.brmod _) | some (.stride _) => false | _ => true
  | .branch => m.noExi && (match m.tail with | some (.stride _) => false | _ => true)
  | .vectorMemory => match m.tail with | some (.brmod _) => false | _ => true

/-- An instruction behind the check that it takes the modifiers read. -/
def withMods (u : ModUse) (s : State) (k : Out) : Out :=
  if s.mods.fit u then k else .refused .modifierMisplaced

/-- The immediate of an instruction whose own reading of its constant is `base` and whose constant's low ten bits are
`c10`: with EXI words the assembled constant, sign-extended (R156). -/
def Mods.imm (m : Mods) (base : Word) (c10 : BitVec 10) : Word :=
  match m.exi0, m.exi1 with
  | some e0, some e1 => (e1.extractLsb' 0 26 ++ e0 ++ c10 : BitVec 64)
  | some e0, none => sext (e0 ++ c10 : BitVec 38)
  | none, _ => base

/-- The mask and zeroing bit that IMOD, BTFLD or STRIDE supply when A[0] = 1 (R551). -/
def Mods.maskSel (m : Mods) : Option (MaskNo × Bool) :=
  match m.tail with
  | some (.imod f) | some (.btfld f) => if f.a.getLsbD 0 then some (f.m3, f.z) else none
  | some (.stride f) => if f.a.getLsbD 0 then some (f.m3, f.z) else none
  | _ => none

/-- The rounding mode IMOD or BTFLD supply when A[1] = 1 (R332). -/
def Mods.rounding (m : Mods) : Option (BitVec 3) :=
  match m.tail with
  | some (.imod f) | some (.btfld f) => if f.a.getLsbD 1 then some f.rm else none
  | _ => none

/-- The address of the word that `exec` runs: the instruction's own, after the bundle's modifiers (R35). -/
def State.ipWord (s : State) : Word := s.ip + BitVec.ofNat 64 (9 * s.mods.count)

/-- The address after the word that `exec` runs. -/
def State.ipNext (s : State) : Word := s.ip + BitVec.ofNat 64 (9 * (s.mods.count + 1))

/-- ip <- t, the bundle done (R36). -/
def State.jump (s : State) (t : Word) : State := { s with ip := t, mods := Mods.empty }

/-- ip <- ip + 9 * words, the bundle done (R36). -/
def State.advance (s : State) : State := s.jump s.ipNext

/-! ## Exceptions (60_exceptions.md) -/

/-- The exceptions an instruction raises (R611). -/
inductive Exception where
  | unimplementedInstruction
  | boundsCheck
  | privilegeViolation
  deriving DecidableEq, Repr

/-- cause_code (R612). -/
def causeCode (p : Params) : Exception → Byte
  | .unimplementedInstruction => p.causeUnimplemented
  | .boundsCheck => p.causeBoundsCheck
  | .privilegeViolation => p.causePrivilege

/-- Taking an exception or an interrupt: push entry 10 on PMSTACK, record the cause in debug mode's cause register, save
the address of the bundle's first word in EIP, go to tvec[4]; nothing else is saved (R620, R500). -/
def State.takeTrap (s : State) (code : Byte) : State :=
  { s with
    pmstack := (s.pmstack <<< 4) ||| 10#64
    cause := s.cause.set 4 (zext code)
    eip := s.ip
    ip := s.tvec[4]
    mods := Mods.empty }

/-- raise E: the trap sequence instead of the instruction's effect (R10, R621). -/
def State.raise (s : State) (e : Exception) : State := s.takeTrap (causeCode s.cfg e)

/-- The return from an exception: pop PMSTACK, clear semaphore 0 and one chosen semaphore, go to EIP plus an offset in
instruction words (R522, R630). -/
def State.returnFromTrap (s : State) (offset : Word) (semaphore : BitVec 6) : State :=
  { s with
    pmstack := s.pmstack >>> 4
    sem := s.sem &&& ~~~(1#64 ||| 1#64 <<< semaphore.toNat)
    ip := s.eip + 9#64 * offset
    mods := Mods.empty }

/-- The mode and interrupt enable of the current PMSTACK entry (R42, R44). -/
def State.pmNow (s : State) : Mode × Bool := s.cfg.pmDecode (s.pmstack.extractLsb' 0 4)

/-- The current operating mode (R44). -/
def State.mode (s : State) : Mode := s.pmNow.1

/-- The interrupt-enable bit of the current PMSTACK entry (R640). -/
def State.interruptsEnabled (s : State) : Bool := s.pmNow.2

/-- Redirecting an exception to a lower mode: copy cause and badaddr, replace the current PMSTACK entry, go to the
target's trap vector; EIP is unchanged (R520). -/
def State.redirect (s : State) (target : Mode) (entry : BitVec 4) : State :=
  { s with
    cause := s.cause.set target.index.val (s.cause[s.mode.index.val]) target.index.isLt
    badaddr := s.badaddr.set target.index.val (s.badaddr[s.mode.index.val]) target.index.isLt
    pmstack := (s.pmstack.extractLsb' 4 60 ++ entry : BitVec 64)
    ip := s.tvec[target.index.val]
    mods := Mods.empty }

/-! ## Memory (20_memory.md) -/

/-- Whether a TLB entry permits the access: bits R 50, W 49, X 48 (R100). -/
def tlbPermits (entry : Word) : Access → Bool
  | .read => entry.getLsbD 50
  | .write => entry.getLsbD 49
  | .fetch => entry.getLsbD 48

/-- Whether a TLB entry translates the address: present, its VPN the tag, and global or of the address space (R100,
R101). Which of G and ASID enters the match is DESIGN CHOICE, log 22. -/
def tlbHit (entry : Word) (asid : BitVec 8) (va : Word) : Bool :=
  entry.extractLsb' 48 3 != 0#3 && entry.extractLsb' 32 16 == va.extractLsb' 24 16 && va.extractLsb' 40 24 == 0#24 &&
    (entry.getLsbD 55 || entry.extractLsb' 56 8 == asid)

/-- Where an entry of a way of the TLB is held (R52). -/
def tlbKey (way : BitVec 2) (entry : BitVec 10) : Nat := 1024 * way.toNat + entry.toNat

/-- tlb[way][entry] (R52). -/
def State.tlbEntry (s : State) (way : BitVec 2) (entry : BitVec 10) : Word := sparseGet 0#64 s.tlb (tlbKey way entry)

/-- The TLB entry that translates an address, of the lowest way that does (R101). -/
def State.tlbLookup (s : State) (asid : BitVec 8) (va : Word) : Option Word :=
  ([0#2, 1#2, 2#2, 3#2].map (fun w => s.tlbEntry w (va.extractLsb' 14 10))).find? (fun x => tlbHit x asid va)

/-- `translate`: a virtual byte address to a physical one (R102). -/
def State.translate (s : State) (k : Access) (va : Word) : Except Refusal Nat :=
  match s.cfg.translate with
  | .identity => .ok va.toNat
  | .tlb asid =>
    match s.tlbLookup asid va with
    | some entry =>
      if tlbPermits entry k then .ok (entry.extractLsb' 0 20 ++ va.extractLsb' 0 14 : BitVec 34).toNat
      else .error .noTranslation
    | none => .error .noTranslation
  | .other n =>
    match Config.translateBy n va k s.mode s.tlb with
    | some p => .ok p.toNat
    | none => .error .noTranslation

/-- Whether an address lies in one of the regions. -/
def inRegions (rs : List Region) (a : Nat) : Bool := rs.any (fun r => decide (r.base ≤ a ∧ a < r.base + r.size))

/-- Whether a physical byte is a device's (R91). -/
def State.isDevice (s : State) (p : Nat) : Bool := inRegions s.cfg.mmio p

/-- The physical byte an access reaches: a device's or one that memory backs (R91). -/
def State.physical (s : State) (k : Access) (va : Word) : Except Refusal Nat :=
  match s.translate k va with
  | .error e => .error e
  | .ok p => if s.isDevice p || inRegions s.cfg.backed p then .ok p else .error .unbackedAddress

/-- What an unlisted byte of memory reads as. DESIGN CHOICE, log 4. -/
def unlistedByte : Byte := 0#8

/-- What one physical byte reads: memory's, or what the environment has the device's byte read at present. DESIGN CHOICE for
devices, log 37. -/
def State.byteAt (s : State) (p : Nat) : Byte := sparseGet unlistedByte (if s.isDevice p then s.device else s.mem) p

/-- One physical byte stored: to memory, where a fetch of it is stale until it is invalidated (R95), or to the device. DESIGN
CHOICE for devices, log 37. -/
def State.setByte (s : State) (p : Nat) (b : Byte) : State :=
  if s.isDevice p then { s with deviceOut := s.deviceOut ++ [(p, b)] }
  else { s with mem := sparseSet unlistedByte s.mem p b, stale := sparseSet false s.stale p true }

/-- The `n` bytes at an address, the lowest address least significant (R82), zero-extended; each byte's address modulo
2^64. -/
def State.readBytes (s : State) (k : Access) (a : Word) : Nat → Except Refusal Word
  | 0 => .ok 0#64
  | n + 1 =>
    match s.physical k a with
    | .error e => .error e
    | .ok p =>
      match s.readBytes k (a + 1#64) n with
      | .error e => .error e
      | .ok hi => .ok ((hi <<< 8) ||| zext (s.byteAt p))

/-- The low `n` bytes of a value stored at an address, the least significant at the lowest address (R82). -/
def State.writeBytes (s : State) (a : Word) (w : Word) : Nat → Except Refusal State
  | 0 => .ok s
  | n + 1 =>
    match s.physical .write a with
    | .error e => .error e
    | .ok p => (s.setByte p (w.extractLsb' 0 8)).writeBytes (a + 1#64) (w >>> 8) n

/-- An access of `n` bytes is refused for its alignment (R88). -/
def State.misaligned (s : State) (a : Word) (n : Nat) : Bool :=
  decide (s.cfg.misaligned = .refuse) && decide (a.toNat % n ≠ 0)

/-- MemRead(a, n) (R10, R88). -/
def State.memRead (s : State) (a : Word) (n : Nat) : Except Refusal Word :=
  if s.misaligned a n then .error .misaligned else s.readBytes .read a n

/-- MemWrite(a, n, w) (R10, R88). -/
def State.memWrite (s : State) (a : Word) (n : Nat) (w : Word) : Except Refusal State :=
  if s.misaligned a n then .error .misaligned else s.writeBytes a w n

/-- STPTR's byte stores: while ea <> 0, shift ea right by eight and store a zero byte there; eight rounds end the loop
for any 64-bit address (R446). -/
def State.clearCards (s : State) (ea : Word) : Nat → Except Refusal State
  | 0 => .ok s
  | n + 1 =>
    if ea = 0#64 then .ok s
    else
      match s.memWrite (ea >>> 8) 1 0#64 with
      | .error e => .error e
      | .ok t => t.clearCards (ea >>> 8) n

/-- Loads at a list of optional addresses, in order; an absent address loads nothing (R590). -/
def State.loadMany (s : State) (size : Nat) (ext : Word → Word) : List (Option Word) → Except Refusal (List (Option Word))
  | [] => .ok []
  | none :: rest =>
    match s.loadMany size ext rest with
    | .error e => .error e
    | .ok ws => .ok (none :: ws)
  | some a :: rest =>
    match s.memRead a size with
    | .error e => .error e
    | .ok w =>
      match s.loadMany size ext rest with
      | .error e => .error e
      | .ok ws => .ok (some (ext w) :: ws)

/-- Stores of (address, value) pairs, in order (R590). -/
def State.storeMany (s : State) (size : Nat) : List (Word × Word) → Except Refusal State
  | [] => .ok s
  | (a, w) :: rest =>
    match s.memWrite a size w with
    | .error e => .error e
    | .ok t => t.storeMany size rest

/-- A value of `8 * n` bits sign-extended to 64 bits, `n` from 1 to 8 (R85). -/
def signExtendBytes (n : Nat) (w : Word) : Word := (w <<< (64 - 8 * n)).sshiftRight (64 - 8 * n)

/-- The bytes of an access size, none where the size is reserved or wider than a register (R85, R86). -/
def sizeBytes (func4 : BitVec 4) : Option Nat :=
  match func4 with
  | 0#4 => some 1
  | 1#4 => some 2
  | 2#4 => some 4
  | 3#4 => some 8
  | _ => none

/-- The factor of an indexed address, none where `Sc3` is 2 or more (R142). -/
def scaleFactor (sc : BitVec 3) (size : Nat) : Option Word :=
  match sc with
  | 0#3 => some 1#64
  | 1#3 => some (BitVec.ofNat 64 size)
  | _ => none

/-! ## Caches (R96, R410) -/

/-- The bytes of the cache line that holds a physical address are fetched as they are stored. -/
def freshLine (line : Nat) (stale : List (Nat × Bool)) (p : Nat) : List (Nat × Bool) :=
  stale.filter (fun c => decide (c.1 / line ≠ p / line))

/-! ## Queues (R510) -/

/-- queue[q]. -/
def State.queue (s : State) (q : BitVec 6) : List Word := s.queues[q.toNat]'q.isLt

/-- queue[q] <- l. -/
def State.setQueue (s : State) (q : BitVec 6) (l : List Word) : State :=
  { s with queues := s.queues.set q.toNat l q.isLt }

/-- The low QUEUE_WIDTH bits of a value (R511). -/
def queueValue (p : Params) (w : Word) : Word := w &&& (BitVec.allOnes 64 >>> (64 - p.queueWidth))

/-- The queue's status word (R514). -/
def queueStatus (l : List Word) : Word :=
  (if l.isEmpty then 1#64 <<< 63 else 1#64 <<< 62) ||| (BitVec.ofNat 10 l.length).setWidth 64

/-! ## CSRs (R503) -/

/-- csr_map. -/
def csrLookup (p : Params) (regno : BitVec 14) : Option CsrDesc :=
  (p.csrMap.find? (fun e => e.1 == regno)).map (fun e => e.2)

/-- What a CSR names, read. -/
def State.csrRead (s : State) : CsrReg → Word
  | .pmstack => s.pmstack
  | .eip => s.eip
  | .vl => s.vl
  | .semaphores => s.sem
  | .semaphore n => (s.sem >>> n.toNat) &&& 1#64
  | .dcacheEnable => if s.dcacheEnable then 1#64 else 0#64
  | .cause m => s.cause[m.index.val]
  | .badaddr m => s.badaddr[m.index.val]
  | .tvec m => s.tvec[m.index.val]
  | .own n => sparseGet 0#64 s.csrs n.toNat
  | .other n => Config.csrReadBy n s

/-- The registers that CSRs reach take the values of `g`; of the CSRs' own registers, that of number `n`. -/
def State.withSystem (s : State) (n : BitVec 14) (g : CsrReg → Word) : State :=
  { s with
    pmstack := g .pmstack
    eip := g .eip
    vl := g .vl
    sem := g .semaphores
    dcacheEnable := (g .dcacheEnable).getLsbD 0
    cause := Vector.ofFn (fun i => g (.cause (Mode.ofIndex i)))
    badaddr := Vector.ofFn (fun i => g (.badaddr (Mode.ofIndex i)))
    tvec := Vector.ofFn (fun i => g (.tvec (Mode.ofIndex i)))
    csrs := sparseSet 0#64 s.csrs n.toNat (g (.own n)) }

/-- What a CSR names, written. -/
def State.csrWrite (s : State) (r : CsrReg) (w : Word) : State :=
  match r with
  | .pmstack => { s with pmstack := w }
  | .eip => { s with eip := w }
  | .vl => { s with vl := w }
  | .semaphores => { s with sem := w }
  | .semaphore n => { s with sem := (s.sem &&& ~~~(1#64 <<< n.toNat)) ||| ((w &&& 1#64) <<< n.toNat) }
  | .dcacheEnable => { s with dcacheEnable := w.getLsbD 0 }
  | .cause m => { s with cause := s.cause.set m.index.val w m.index.isLt }
  | .badaddr m => { s with badaddr := s.badaddr.set m.index.val w m.index.isLt }
  | .tvec m => { s with tvec := s.tvec.set m.index.val w m.index.isLt }
  | .own n => { s with csrs := sparseSet 0#64 s.csrs n.toNat w }
  | .other n => s.withSystem n (Config.csrWriteBy n w s)

/-- csr_read (R501, R503). -/
def State.csrGet (s : State) (d : CsrDesc) : Word := s.csrRead d.reg &&& d.readMask

/-- csr_write (R501, R503): the bits that a write reaches take those of `w`. -/
def State.csrPut (s : State) (d : CsrDesc) (w : Word) : State :=
  s.csrWrite d.reg ((s.csrRead d.reg &&& ~~~d.writeMask) ||| (w &&& d.writeMask))

end Sys2Proof.Machine
end

