-- ==== Sys2Proof/Machine/Operands.lean ====
section
/-! DEFINITION. Operand forms and the shared shapes of instructions: what a source operand is (R131), which elements a
vector form writes (R550, R551), and one operation per instruction format. An instruction's own formula is the argument
`g`; its meaning stands in the family files. -/

namespace Sys2Proof.Machine

/-! ## Source operands -/

/-- The source Ra by its one-bit type code, for element `e` (R131, R550). -/
def State.srcA (s : State) (ta : Bool) (ra : RegNo) (e : Nat) : Word := if ta then s.elem ra e else s.reg ra

/-- A source operand by its two-bit type code, for element `e`: scalar, vector, or the constant {Ty2[0], R5} (R131). -/
def State.srcSpec (s : State) (k : ConstKind) (ty : BitVec 2) (r : RegNo) (e : Nat) : Word :=
  if ty = 0#2 then s.reg r
  else if ty = 1#2 then s.elem r e
  else constValue k (ty.extractLsb' 0 1 ++ r : BitVec 6)

/-- The type code selects a vector register. -/
def isVec (ty : BitVec 2) : Bool := ty == 1#2

/-- How a constant given through IMOD or BTFLD is read: through BTFLD always zero-extended (R186). -/
def Mods.constKind (m : Mods) (k : ConstKind) : ConstKind :=
  match m.tail with
  | some (.btfld _) => .unsigned
  | _ => k

/-- The type code and number of Rc, from IMOD or BTFLD; x0 without one (R130, R184). -/
def Mods.rc (m : Mods) : BitVec 2 × RegNo :=
  match m.tail with
  | some (.imod f) | some (.btfld f) => (f.tc, f.rc)
  | _ => (0#2, 0#5)

/-- The type code and number of Rd, from IMOD or BTFLD; x0 without one (R130, R184). -/
def Mods.rd (m : Mods) : BitVec 2 × RegNo :=
  match m.tail with
  | some (.imod f) | some (.btfld f) => (f.td, f.rd)
  | _ => (0#2, 0#5)

/-- opC for element `e` (R131). -/
def State.opC (s : State) (k : ConstKind) (e : Nat) : Word :=
  s.srcSpec (s.mods.constKind k) s.mods.rc.1 s.mods.rc.2 e

/-- opD for element `e` (R131). -/
def State.opD (s : State) (k : ConstKind) (e : Nat) : Word :=
  s.srcSpec (s.mods.constKind k) s.mods.rd.1 s.mods.rd.2 e

/-- The displacement of a load or store: EXI words assemble it, else STRIDE extends it upward, else it is the field,
sign-extended (R156, R158; EXI over STRIDE log 14). -/
def Mods.disp {n : Nat} (m : Mods) (c : BitVec n) : Word :=
  match m.tail with
  | some (.stride f) => m.imm (sext (f.c14 ++ c)) (c.extractLsb' 0 10)
  | _ => m.imm (sext c) (c.extractLsb' 0 10)

/-! ## Elements under the mask -/

/-- The mask register and zeroing bit a vector instruction runs under, none where it is unmasked (R551). -/
abbrev MaskSel := Option (MaskNo × Bool)

/-- Element `e` is active (R551). -/
def State.active (s : State) (sel : MaskSel) (e : Nat) : Bool :=
  match sel with
  | some (m, _) => (s.mask m).getLsbD e
  | none => true

/-- Inactive elements are written with zero (R551). -/
def zeroing (sel : MaskSel) : Bool :=
  match sel with
  | some (_, z) => z
  | none => false

/-- What an inactive element is written with (R551). -/
def inactiveValue (sel : MaskSel) : Option Word := if zeroing sel then some 0#64 else none

/-- What element `e` is written with, none where it is unchanged (R550, R551). -/
def State.laneValue (s : State) (sel : MaskSel) (f : Nat → Word) (e : Nat) : Option Word :=
  if s.active sel e then some (f e) else inactiveValue sel

/-- The active elements below VL, ascending. -/
def State.actives (s : State) (sel : MaskSel) : List Nat := (List.range s.vlen).filter (fun e => s.active sel e)

/-- An element of a list of values packed at the bottom of a vector register, the rest zeroed or unchanged (R582, R593). -/
def packedValue (sel : MaskSel) (ws : List Word) (e : Nat) : Option Word :=
  match ws[e]? with
  | some w => some w
  | none => inactiveValue sel

/-- An instruction with `v = 1` behind the check of VL (R552). -/
def withVl (s : State) (k : Out) : Out := if s.vlTooLong then .refused .vectorLength else k

/-- raise UnimplementedInstruction for a type code the instruction cannot use (R172). -/
def misuse (s : State) : Out := .next (s.raise .unimplementedInstruction)

/-- An element-wise operation (R200, R550): the scalar form writes `f 0` to x[rt], the vector form writes `f e` to each
active element of v[rt]; a vector operand in the scalar form or a scalar target in the vector form raises (R172). -/
def elementOp (v tt : Bool) (rt : RegNo) (vectorSource : Bool) (sel : MaskSel) (f : Nat → Word) (s : State) : Out :=
  if v then
    if tt then withVl s (.next (s.setElems rt s.vlen (s.laneValue sel f)).advance) else misuse s
  else if tt || vectorSource then misuse s
  else .next (s.setReg rt (f 0)).advance

/-! ## Instruction formats -/

/-- R1 format (R128): always masked by its own mask field in the vector form (R551). -/
def r1Op (g : Word → Word) (f : R1F) (s : State) : Out :=
  withMods .plain s
    (elementOp f.v f.tt f.rt f.ta (some (f.m3, f.z)) (fun e => g (s.srcA f.ta f.ra e)) s)

/-- R2 format (R129). -/
def r2Op (k : ConstKind) (g : Word → Word → Word) (f : R2F) (s : State) : Out :=
  withMods .plain s
    (elementOp f.v f.tt f.rt (f.ta || isVec f.tb) s.mods.maskSel
      (fun e => g (s.srcA f.ta f.ra e) (s.srcSpec k f.tb f.rb e)) s)

/-- R2 layout with a six-bit count (R277). -/
def shiftOp (g : Word → BitVec 6 → Word) (f : ShiftF) (s : State) : Out :=
  withMods .plain s
    (elementOp f.v f.tt f.rt f.ta s.mods.maskSel (fun e => g (s.srcA f.ta f.ra e) f.imm6) s)

/-- R3 format (R130): the third source from IMOD or BTFLD. -/
def r3Op (kb kc : ConstKind) (g : Word → Word → Word → Word) (f : R2F) (s : State) : Out :=
  withMods .plain s
    (elementOp f.v f.tt f.rt (f.ta || isVec f.tb || isVec s.mods.rc.1) s.mods.maskSel
      (fun e => g (s.srcA f.ta f.ra e) (s.srcSpec kb f.tb f.rb e) (s.opC kc e)) s)

/-- R4 format (R130): the third and fourth source from IMOD or BTFLD. -/
def r4Op (kb kc : ConstKind) (g : Word → Word → Word → Word → Word) (f : R2F) (s : State) : Out :=
  withMods .plain s
    (elementOp f.v f.tt f.rt (f.ta || isVec f.tb || isVec s.mods.rc.1 || isVec s.mods.rd.1) s.mods.maskSel
      (fun e => g (s.srcA f.ta f.ra e) (s.srcSpec kb f.tb f.rb e) (s.opC kc e) (s.opD kc e)) s)

/-- RI format (R127, R155): `ext` is the instruction's own reading of Constant16, EXI words override it (R156). -/
def riOp (ext : BitVec 16 → Word) (g : Word → Word → Word) (f : RIF) (s : State) : Out :=
  withMods .extended s
    (elementOp f.v f.tt f.rt f.ta s.mods.maskSel
      (fun e => g (s.srcA f.ta f.ra e) (s.mods.imm (ext f.imm16) (f.imm16.extractLsb' 0 10))) s)

/-- CHK after its operands: nothing happens within the bounds, else BoundsCheck (R479, R481). -/
def checkOp (ok : Bool) (s : State) : Out := if ok then .next s.advance else .next (s.raise .boundsCheck)

/-- A conditional branch (R460 to R462): `cond` compares Ra with Rb. -/
def branchOp (k : ConstKind) (cond : Word → Word → Bool) (f : BrF) (s : State) : Out :=
  withMods .branch s
    (if f.ta || isVec f.tb then misuse s
    else
      match s.mods.tail with
      | some (.brmod m) =>
        if isVec m.tc || m.tt then misuse s
        else
          .next ((s.setReg m.rt s.ipNext).jump
            (if cond (s.reg f.ra) (s.srcSpec k f.tb f.rb 0) then
              (if m.tc = 0#2 ∧ m.rc = 31#5 then s.ipWord else s.srcSpec .signed m.tc m.rc 0) +
                9#64 * sext (m.c15 ++ f.disp15)
            else s.ipNext))
      | _ =>
        .next (s.jump
          (if cond (s.reg f.ra) (s.srcSpec k f.tb f.rb 0) then s.ipWord + 9#64 * sext f.disp15 else s.ipNext)))

/-- A jump that links (R472, R475, R477): x[link register] <- link, ip <- target. -/
def linkJump (rt2 : BitVec 2) (link target : Word) (s : State) : Out :=
  .next ((s.setReg (rt2.setWidth 5) link).jump target)

/-- The value of a two-bit register spec in a scalar position, none for a vector register (R131, R172). -/
def State.scalarSpec (s : State) (ty : BitVec 2) (r : RegNo) : Option Word :=
  if isVec ty then none else some (s.srcSpec .signed ty r 0)

/-! ## Loads and stores -/

/-- Whether a load extends by sign or by zero. -/
def extendLoad (signed : Bool) (n : Nat) (w : Word) : Word := if signed then signExtendBytes n w else w

/-- A load after its address: MemRead, extension, x[rt] (R411). -/
def loadTo (signed : Bool) (n : Nat) (ea : Word) (rt : RegNo) (s : State) : Out :=
  match s.memRead ea n with
  | .error e => .refused e
  | .ok w => .next (s.setReg rt (extendLoad signed n w)).advance

/-- A load, displacement form (R411 to R413). -/
def loadOp (signed : Bool) (func4 : BitVec 4) (f : LdF) (s : State) : Out :=
  withMods .extended s
    (if f.tt || f.ta then misuse s
    else
      match sizeBytes func4 with
      | none => .refused .reservedSize
      | some n => loadTo signed n (s.reg f.ra + s.mods.disp f.disp12) f.rt s)

/-- A load, indexed form (R411, R414, R415). -/
def loadXOp (signed : Bool) (func4 : BitVec 4) (f : LdxF) (s : State) : Out :=
  withMods .plain s
    (if f.tt || f.ta || isVec f.tb then misuse s
    else
      match sizeBytes func4 with
      | none => .refused .reservedSize
      | some n =>
        match scaleFactor f.sc n with
        | none => .refused .reservedScale
        | some k => loadTo signed n (s.reg f.ra + s.srcSpec .signed f.tb f.rb 0 * k) f.rt s)

/-- A store after its address and data (R435). -/
def storeAt (n : Nat) (ea w : Word) (s : State) : Out :=
  match s.memWrite ea n w with
  | .error e => .refused e
  | .ok t => .next t.advance

/-- STPTR after its address and data: an octa, then the card bytes (R446). -/
def storePointerAt (ea w : Word) (s : State) : Out :=
  match s.memWrite ea 8 w with
  | .error e => .refused e
  | .ok t =>
    match t.clearCards ea 8 with
    | .error e => .refused e
    | .ok u => .next u.advance

/-- The address of a store, displacement form (R435). -/
def State.storeAddress (s : State) (f : StF) : Word := s.reg f.ra + s.mods.disp f.disp11

/-- A store, displacement form (R435, R436): `put` stores the data at the address. -/
def storeOp (put : Word → Word → State → Out) (f : StF) (s : State) : Out :=
  withMods .extended s
    (if f.ta || isVec f.tb then misuse s
    else put (s.storeAddress f) (s.srcSpec .signed f.tb f.rb 0) s)

/-- The address of a store, indexed form, with the scale's factor (R435, R437). -/
def State.storeXAddress (s : State) (f : StxF) (k : Word) : Word := s.reg f.ra + s.opC .signed 0 * k

/-- A store, indexed form (R435, R437): the index is Rc of the IMOD word. -/
def storeXOp (size : Nat) (put : Word → Word → State → Out) (f : StxF) (s : State) : Out :=
  withMods .plain s
    (if f.ta || isVec f.tb || isVec s.mods.rc.1 then misuse s
    else
      match scaleFactor f.sc size with
      | none => .refused .reservedScale
      | some k => put (s.storeXAddress f k) (s.srcSpec .signed f.tb f.rb 0) s)

/-- Store and zero (R443): the store, then x[Rb] <- 0 if the data came from a scalar register. -/
def storeZeroAt (n : Nat) (f : StF) (ea w : Word) (s : State) : Out :=
  match s.memWrite ea n w with
  | .error e => .refused e
  | .ok t => .next (if f.tb = 0#2 then t.setReg f.rb 0#64 else t).advance

/-! ## Vector loads and stores (R590) -/

/-- The address of element `x`: base plus displacement plus stride times `x`, or plus element `x` of the index vector
(R591, R592). -/
def State.elemAddress (s : State) (m : StrideF) (base : Word) (x : Nat) : Word :=
  if isVec m.tc then base + s.elem m.rc x
  else base + s.srcSpec .unsigned m.tc m.rc 0 * BitVec.ofNat 64 x

/-- The addresses of a load, by element: those of the active elements (R591, R592). -/
def State.loadAddresses (s : State) (sel : MaskSel) (addr : Nat → Word) : List (Option Word) :=
  (List.range s.vlen).map (fun x => if s.active sel x then some (addr x) else none)

/-- The addresses of a compressed load: strided, the first ones; indexed, those of the active elements (R593, R594). -/
def State.packedAddresses (s : State) (indexed : Bool) (sel : MaskSel) (addr : Nat → Word) : List (Option Word) :=
  if indexed then (s.actives sel).map (fun x => some (addr x))
  else (List.range (s.actives sel).length).map (fun j => some (addr j))

/-- What a vector load writes to element `e`: the value loaded there, else zero or nothing (R591, R593). -/
def loadedValue (sel : MaskSel) (ws : List (Option Word)) (e : Nat) : Option Word :=
  match ws[e]? with
  | some (some w) => some w
  | _ => inactiveValue sel

/-- What a vector load or store needs before its accesses: the STRIDE word, of the type the opcode takes (R590). -/
def withStride (indexed : Bool) (s : State) (k : StrideF → Out) : Out :=
  withMods .vectorMemory s
    (match s.mods.tail with
    | some (.stride m) => if isVec m.tc == indexed then k m else .refused .strideMismatch
    | _ => .refused .strideMissing)

/-- A vector load (R590 to R594), plain or compressed. -/
def vectorLoadOp (indexed compressed : Bool) (func4 : BitVec 4) (f : LdF) (s : State) : Out :=
  withStride indexed s (fun m =>
    if f.ta || !f.tt then misuse s
    else withVl s
      (match sizeBytes func4 with
      | none => .refused .reservedSize
      | some n =>
        let sel := s.mods.maskSel
        let addr := s.elemAddress m (s.reg f.ra + s.mods.disp f.disp12)
        match s.loadMany n (extendLoad (!zeroing sel) n)
            (if compressed then s.packedAddresses indexed sel addr else s.loadAddresses sel addr) with
        | .error e => .refused e
        | .ok ws => .next (s.setElems f.rt s.vlen (loadedValue sel ws)).advance))

/-- The stores of a vector store: active elements their data, inactive ones zero when zeroing (R595, R596). -/
def State.storePairs (s : State) (sel : MaskSel) (addr data : Nat → Word) : List (Word × Word) :=
  (List.range s.vlen).filterMap (fun x => (s.laneValue sel data x).map (fun w => (addr x, w)))

/-- The stores of a compressed vector store: the j-th active element at the j-th address (R597, R598). -/
def State.packedPairs (s : State) (sel : MaskSel) (addr data : Nat → Word) : List (Word × Word) :=
  (s.actives sel).zipIdx.map (fun p => (addr p.2, data p.1))

/-- A vector store (R590, R595 to R598), plain or compressed; compressed, it is refused while the zeroing bit is in
force (R597). -/
def vectorStoreOp (indexed compressed : Bool) (func4 : BitVec 4) (f : StF) (s : State) : Out :=
  withStride indexed s (fun m =>
    if f.ta then misuse s
    else withVl s
      (match sizeBytes func4 with
      | none => .refused .reservedSize
      | some n =>
        let sel := s.mods.maskSel
        let addr := s.elemAddress m (s.storeAddress f)
        let data := s.srcSpec .signed f.tb f.rb
        if compressed && zeroing sel then .refused .compressZero
        else
          match s.storeMany n (if compressed then s.packedPairs sel addr data else s.storePairs sel addr data) with
          | .error e => .refused e
          | .ok t => .next t.advance))

/-! ## Masks, queues and system operands -/

/-- A mask register operation on two masks (R570 to R577). -/
def maskOp (g : BitVec 128 → BitVec 128 → BitVec 128) (f : Vm3F) (s : State) : Out :=
  withMods .plain s (.next (s.setMask f.vmt (g (s.mask f.vma) (s.mask f.vmb))).advance)

/-- A mask register read into a scalar register (R562, R563, R565, R578). -/
def maskGetOp (g : BitVec 128 → Word) (f : VmGetF) (s : State) : Out :=
  withMods .plain s
    (if f.tt2 = 0#2 then .next (s.setReg f.rt (g (s.mask f.vm))).advance else misuse s)

/-- A mask register written from a scalar source (R561, R564). -/
def maskPutOp (g : Word → BitVec 128) (f : VmPutF) (s : State) : Out :=
  withMods .plain s
    (match s.scalarSpec f.ta2 f.ra with
    | none => misuse s
    | some w => .next (s.setMask f.vmt (g w)).advance)

/-- A set-mask comparison (R585): bit `e` below VL, under the mask; bits from VL up unchanged. -/
def setMaskOp (k : ConstKind) (cond : BitVec 3 → Word → Word → Option Bool) (f : SetMaskF) (s : State) : Out :=
  withMods .plain s
    (withVl s
      (if (cond f.cond 0#64 0#64).isNone then .refused .reservedCondition
      else
        .next (s.setMask f.vmt (bitsOf 128 (fun e =>
          if e < s.vlen then
            if s.active s.mods.maskSel e then
              (cond f.cond (s.srcA f.ta f.ra e) (s.srcSpec k f.tb f.rb e)).getD false
            else if zeroing s.mods.maskSel then false
            else (s.mask f.vmt).getLsbD e
          else (s.mask f.vmt).getLsbD e))).advance))

/-- A six-bit SYS field as a register number (R152). -/
def sysReg (x : BitVec 6) : RegNo := x.extractLsb' 0 5

/-- A six-bit SYS field as a register spec selects a vector register (R152, R172). -/
def sysVec (x : BitVec 6) : Bool := x.getLsbD 5

/-- PUSH of a value onto a queue (R511). -/
def pushTo (q : BitVec 6) (w : Word) (s : State) : Out :=
  if (s.queue q).length < s.cfg.queueDepth then
    .next (s.setQueue q (s.queue q ++ [queueValue s.cfg w])).advance
  else .refused .queueFull

/-- POP of a queue into a register; an empty queue gives a free value (R512; log 6). -/
def popFrom (q : BitVec 6) (rt : RegNo) (s : State) : Out :=
  match s.queue q with
  | [] => .next ({ s with free := s.free + 1 }.setReg rt (Config.freeWord s.free)).advance
  | w :: rest => .next ((s.setQueue q rest).setReg rt w).advance

/-- PEEK of a queue into a register; an empty queue gives a free value (R513; log 6). -/
def peekFrom (q : BitVec 6) (rt : RegNo) (s : State) : Out :=
  match s.queue q with
  | [] => .next ({ s with free := s.free + 1 }.setReg rt (Config.freeWord s.free)).advance
  | w :: _ => .next (s.setReg rt w).advance

/-- STAT of a queue into a register (R514). -/
def statOf (q : BitVec 6) (rt : RegNo) (s : State) : Out :=
  .next (s.setReg rt (queueStatus (s.queue q))).advance

/-- TLBRW and CACHE below machine mode (R652): the parameter sys_priv. -/
def withSysPriv (s : State) (k : Out) : Out :=
  if s.mode.index.val < 3 then
    match s.cfg.sysPriv with
    | .allow => k
    | .trap => .next (s.raise .privilegeViolation)
    | .refuse => .refused .privilegeUnstated
  else k

/-- CSRx after its operand (R501 to R503). That a write to a read-only register raises PrivilegeViolation where csr_map says
that it raises is DESIGN CHOICE, log 39: R502 names no exception for it. -/
def csrOp (op2 : BitVec 2) (f : CsrF) (s : State) : Out :=
  withMods .plain s
    (if op2 ≠ 0#2 ∧ isVec f.ta2 = true then misuse s
    else if s.mode.index.val < (f.regno.extractLsb' 12 2).toNat then .next (s.raise .privilegeViolation)
    else
      match csrLookup s.cfg f.regno with
      | none => .next (s.raise .unimplementedInstruction)
      | some d =>
        let old := s.csrGet d
        let a := s.srcSpec .signed f.ta2 f.ra 0
        if op2 = 0#2 then .next (s.setReg f.rt old).advance
        else if op2 ≠ 1#2 ∧ d.setClear = false then .refused .csrCapability
        else
          match d.onWrite with
          | .raises => .next (s.raise .privilegeViolation)
          | .ignored => .next (s.setReg f.rt old).advance
          | .writes =>
            .next ((s.csrPut d
              (if op2 = 1#2 then a else if op2 = 2#2 then old ||| a else old &&& ~~~a)).setReg f.rt old).advance)

/-- An instruction an opcode map only names (R171 (b)). -/
def namedOnly (r : Refusal) : Out := .refused r

end Sys2Proof.Machine
end

