-- ==== Sys2Proof/Machine/Arith.lean ====
section
/-! DEFINITION. Integer arithmetic (41_arith_a.md, 42_arith_b.md), scalar and vector forms. -/

namespace Sys2Proof.Machine

/-- ABS: negated if negative, R201. -/
def execAbs (f : R1F) (s : State) : Out := r1Op (fun a => if a.slt 0#64 then -a else a) f s

/-- NABS: negated unless negative, R258. -/
def execNabs (f : R1F) (s : State) : Out := r1Op (fun a => if a.slt 0#64 then a else -a) f s

/-- NEG, the R1 form, R259. -/
def execNeg (f : R1F) (s : State) : Out := r1Op (fun a => 0#64 - a) f s

/-- NEG, the alternate mnemonic of SUBF with constant zero, R259. -/
def execNegSubf (f : RtF) (s : State) : Out :=
  withMods .plain s (elementOp f.v f.tt f.rt f.ta s.mods.maskSel (fun e => 0#64 - s.srcA f.ta f.ra e) s)

/-- ADD, immediate form, R202. -/
def execAddI (f : RIF) (s : State) : Out := riOp sext (fun a i => a + i) f s

/-- ADD, register form, R203. -/
def execAddR (f : R2F) (s : State) : Out := r2Op .signed (fun a b => a + b) f s

/-- SUB, R293. -/
def execSub (f : R2F) (s : State) : Out := r2Op .signed (fun a b => a - b) f s

/-- SUBF: the immediate minus Ra, R294. -/
def execSubf (f : RIF) (s : State) : Out := riOp sext (fun a i => i - a) f s

/-- MUL, immediate form, R252. -/
def execMulI (f : RIF) (s : State) : Out := riOp sext (fun a i => a * i) f s

/-- MUL, register form, R253. -/
def execMulR (f : R2F) (s : State) : Out := r2Op .signed (fun a b => a * b) f s

/-- MULU, immediate form, R256. -/
def execMuluI (f : RIF) (s : State) : Out := riOp zext (fun a i => a * i) f s

/-- MULU, register form, R256. -/
def execMuluR (f : R2F) (s : State) : Out := r2Op .unsigned (fun a b => a * b) f s

/-- MULF, immediate form, R255. -/
def execMulfI (f : RIF) (s : State) : Out := riOp zext fastMul f s

/-- MULF, register form: 24 by 16 bits, R254. -/
def execMulfR (f : R2F) (s : State) : Out := r2Op .unsigned fastMul f s

/-- MULF, the second map cell 0D, R254. -/
def execMulfR0D (f : R2F) (s : State) : Out := r2Op .unsigned fastMul f s

/-- DIV, immediate form, R222. -/
def execDivI (f : RIF) (s : State) : Out := riOp sext (quotSigned .div) f s

/-- DIV, register form, R223. -/
def execDivR (f : R2F) (s : State) : Out := r2Op .signed (quotSigned .div) f s

/-- DIVR: the immediate divided by Ra, R224. -/
def execDivr (f : RIF) (s : State) : Out := riOp sext (fun a i => quotSigned .divr i a) f s

/-- DIVU, immediate form, R225. -/
def execDivuI (f : RIF) (s : State) : Out := riOp zext (quotUnsigned .divu) f s

/-- DIVU, register form, R225. -/
def execDivuR (f : R2F) (s : State) : Out := r2Op .unsigned (quotUnsigned .divu) f s

/-- REM, immediate form, R322. -/
def execRemI (f : RIF) (s : State) : Out := riOp sext remSigned f s

/-- REM, register form, R322. -/
def execRemR (f : R2F) (s : State) : Out := r2Op .signed remSigned f s

/-- REMU, immediate form, R322; its constant is sign-extended, since R155 lists it in no other class (D9). -/
def execRemuI (f : RIF) (s : State) : Out := riOp sext remUnsigned f s

/-- REMU, register form, R322; a constant Rb is sign-extended, since R132 does not list it as unsigned (D9). -/
def execRemuR (f : R2F) (s : State) : Out := r2Op .signed remUnsigned f s

/-- DIF: the distance of two signed values, R221. -/
def execDif (f : R2F) (s : State) : Out := r2Op .signed distance f s

/-- PTRDIF: the distance shifted right by the low five bits of Rc, R265. -/
def execPtrdif (f : R2F) (s : State) : Out :=
  r3Op .signed .unsigned (fun a b c => distance a b >>> (c.extractLsb' 0 5).toNat) f s

/-- SQRT: floor of the square root, unsigned, R292. -/
def execSqrt (f : R1F) (s : State) : Out := r1Op isqrt f s

/-- MIN, signed, R251. -/
def execMin (f : R2F) (s : State) : Out := r2Op .signed (fun a b => if a.slt b then a else b) f s

/-- MAX, signed, R250. -/
def execMax (f : R2F) (s : State) : Out := r2Op .signed (fun a b => if b.slt a then a else b) f s

end Sys2Proof.Machine
end

