-- ==== Sys2Proof/Machine/Compare.lean ====
section
/-! DEFINITION. Comparisons into a register (R214, R266 to R276), scalar and vector forms. -/

namespace Sys2Proof.Machine

/-- CMP: -1, 0 or 1, signed, R214. -/
def execCmp (f : R2F) (s : State) : Out := r2Op .signed compareSigned f s

/-- SIGN, the alternate mnemonic of CMP with Rb = x0, R276. -/
def execSign (f : RtF) (s : State) : Out :=
  withMods .plain s (elementOp f.v f.tt f.rt f.ta s.mods.maskSel (fun e => compareSigned (s.srcA f.ta f.ra e) 0#64) s)

/-- SEQ, immediate form, R267. -/
def execSeqI (f : RIF) (s : State) : Out := riOp sext (fun a i => boolWord (a == i)) f s

/-- SEQ, register form, R267. -/
def execSeqR (f : R2F) (s : State) : Out := r2Op .signed (fun a b => boolWord (a == b)) f s

/-- SNE, immediate form, R268. -/
def execSneI (f : RIF) (s : State) : Out := riOp sext (fun a i => boolWord (a != i)) f s

/-- SNE, register form, R268. -/
def execSneR (f : R2F) (s : State) : Out := r2Op .signed (fun a b => boolWord (a != b)) f s

/-- SLT, immediate form, R269. -/
def execSltI (f : RIF) (s : State) : Out := riOp sext (fun a i => boolWord (a.slt i)) f s

/-- SLT, register form, R269. -/
def execSltR (f : R2F) (s : State) : Out := r2Op .signed (fun a b => boolWord (a.slt b)) f s

/-- SLTU, immediate form, R270. -/
def execSltuI (f : RIF) (s : State) : Out := riOp zext (fun a i => boolWord (a.ult i)) f s

/-- SLTU, register form, R270. -/
def execSltuR (f : R2F) (s : State) : Out := r2Op .unsigned (fun a b => boolWord (a.ult b)) f s

/-- SGT, immediate form, R271. -/
def execSgtI (f : RIF) (s : State) : Out := riOp sext (fun a i => boolWord (i.slt a)) f s

/-- SGT, register form: SLT with Ra and Rb exchanged; the fields are those of the SLT word, R271. -/
def execSgtR (f : R2F) (s : State) : Out := r2Op .signed (fun a b => boolWord (a.slt b)) f s

/-- SGTU, immediate form, R272. -/
def execSgtuI (f : RIF) (s : State) : Out := riOp zext (fun a i => boolWord (i.ult a)) f s

/-- SGTU, register form: SLTU with Ra and Rb exchanged; the fields are those of the SLTU word, R272. -/
def execSgtuR (f : R2F) (s : State) : Out := r2Op .unsigned (fun a b => boolWord (a.ult b)) f s

/-- SGE, R273. -/
def execSge (f : R2F) (s : State) : Out := r2Op .signed (fun a b => boolWord (b.sle a)) f s

/-- SGEU, R274. -/
def execSgeu (f : R2F) (s : State) : Out := r2Op .unsigned (fun a b => boolWord (b.ule a)) f s

/-- SLE: SGE with Ra and Rb exchanged; the fields are those of the SGE word, R275. -/
def execSle (f : R2F) (s : State) : Out := r2Op .signed (fun a b => boolWord (b.sle a)) f s

/-- SLEU: SGEU with Ra and Rb exchanged; the fields are those of the SGEU word, R275. -/
def execSleu (f : R2F) (s : State) : Out := r2Op .unsigned (fun a b => boolWord (b.ule a)) f s

end Sys2Proof.Machine
end

