-- ==== Sys2Proof/Machine/Fields.lean ====
section
/-! DEFINITION. Bit fields (R219 to R230, R288, R291), byte search and permutation (R211, R263, R295, R297). -/

namespace Sys2Proof.Machine

/-- DEP: deposit; Rc is the offset, Rd the width minus one, R220. -/
def execDep (f : R2F) (s : State) : Out :=
  r4Op .signed .unsigned (fun a b c d => depositField a b (c.extractLsb' 0 6) (d.extractLsb' 0 6)) f s

/-- EXT: extract and sign-extend, R228. -/
def execExt (f : R2F) (s : State) : Out :=
  r4Op .signed .unsigned
    (fun a b c d => signField (pairField a b (c.extractLsb' 0 6) (d.extractLsb' 0 6)) (d.extractLsb' 0 6)) f s

/-- EXTU: extract and zero-extend, R229. -/
def execExtu (f : R2F) (s : State) : Out :=
  r4Op .signed .unsigned (fun a b c d => pairField a b (c.extractLsb' 0 6) (d.extractLsb' 0 6)) f s

/-- FFO: find first one; Rb is not used, R230. -/
def execFfo (f : R2F) (s : State) : Out :=
  withMods .plain s
    (elementOp f.v f.tt f.rt (f.ta || isVec s.mods.rc.1 || isVec s.mods.rd.1) s.mods.maskSel
      (fun e => findFirstOne (s.srcA f.ta f.ra e) ((s.opC .unsigned e).extractLsb' 0 6)
        ((s.opD .unsigned e).extractLsb' 0 6)) s)

/-- SRA: EXT with Rd the constant 63; the fields are those of the EXT word, R288. -/
def execSra (f : R2F) (s : State) : Out :=
  r3Op .signed .unsigned (fun a b c => signField (pairField a b (c.extractLsb' 0 6) 63#6) 63#6) f s

/-- SRLP: EXTU with Rd the constant 63; the fields are those of the EXTU word, R291. -/
def execSrlp (f : R2F) (s : State) : Out :=
  r3Op .signed .unsigned (fun a b c => pairField a b (c.extractLsb' 0 6) 63#6) f s

/-- PERM, immediate form, R263. -/
def execPermI (f : RIF) (s : State) : Out := riOp zext permuteBytes f s

/-- PERM, register form, R264. -/
def execPermR (f : R2F) (s : State) : Out := r2Op .signed permuteBytes f s

/-- WYDNDX, immediate form, R297. -/
def execWydndxI (f : RIF) (s : State) : Out :=
  riOp zext (fun a i => indexOrMinusOne (firstField? 16 4 a (i.extractLsb' 0 16))) f s

/-- WYDNDX, register form, R297. -/
def execWydndxR (f : R2F) (s : State) : Out :=
  r2Op .signed (fun a b => indexOrMinusOne (firstField? 16 4 a (b.extractLsb' 0 16))) f s

/-- U21NDX, immediate form, R295. -/
def execU21ndxI (f : RIF) (s : State) : Out :=
  riOp zext (fun a i => indexOrMinusOne (firstField? 21 3 a (i.extractLsb' 0 21))) f s

/-- U21NDX, register form, R295. -/
def execU21ndxR (f : R2F) (s : State) : Out :=
  r2Op .signed (fun a b => indexOrMinusOne (firstField? 21 3 a (b.extractLsb' 0 21))) f s

/-- BYTNDX by its target (R211 to R213): per element into a vector register; the first byte of all active elements of a
vector source into a scalar register; or one register. The keys are given by element. -/
def byteSearchOp (ta2 : BitVec 2) (ra : RegNo) (tt2 : BitVec 2) (rt : RegNo) (v keyVec : Bool) (key : Nat → Byte)
    (s : State) : Out :=
  let found := fun e => firstField? 8 8 (s.srcSpec .signed ta2 ra e) (key e)
  if v && tt2 == 0#2 && isVec ta2 then
    withVl s (.next (s.setReg rt (indexOrMinusOne
      ((List.range (8 * s.vlen)).find? (fun i => s.active s.mods.maskSel (i / 8) &&
        (s.elem ra (i / 8)).extractLsb' (8 * (i % 8)) 8 == key (i / 8))))).advance)
  else if (tt2.getLsbD 1) then misuse s
  else elementOp v (isVec tt2) rt (isVec ta2 || keyVec) s.mods.maskSel (fun e => indexOrMinusOne (found e)) s

/-- BYTNDX, register form, R211. -/
def execBytndxR (f : BytRF) (s : State) : Out :=
  withMods .plain s
    (byteSearchOp f.ta2 f.ra f.tt2 f.rt f.v (isVec f.tb) (fun e => (s.srcSpec .signed f.tb f.rb e).extractLsb' 0 8) s)

/-- BYTNDX, immediate form, R212. -/
def execBytndxI (f : BytIF) (s : State) : Out :=
  withMods .extended s
    (byteSearchOp f.ta2 f.ra f.tt2 f.rt f.v false (fun _ => (s.mods.imm (zext f.imm10) f.imm10).extractLsb' 0 8) s)

end Sys2Proof.Machine
end

