-- ==== Sys2Proof/Machine/Float.lean ====
section
/-! DEFINITION. Floating point (43_float.md), scalar and vector forms. -/

namespace Sys2Proof.Machine

/-- FMOV: the bits copied, R335. -/
def execFmov (f : R1F) (s : State) : Out := r1Op (fun a => a) f s

/-- FABS: the sign bit cleared, R336. -/
def execFabs (f : R1F) (s : State) : Out := r1Op (fun a => a &&& 0x7FFFFFFFFFFFFFFF#64) f s

/-- FNABS: the sign bit set, R337. -/
def execFnabs (f : R1F) (s : State) : Out := r1Op (fun a => a ||| 0x8000000000000000#64) f s

/-- FNEG: the sign bit inverted, R339. -/
def execFneg (f : R1F) (s : State) : Out := r1Op (fun a => a ^^^ 0x8000000000000000#64) f s

/-- FABS, decimal-float form: the sign bit cleared, R336. -/
def execDfabs (f : R1F) (s : State) : Out := r1Op (fun a => a &&& 0x7FFFFFFFFFFFFFFF#64) f s

/-- FSQRT: `fp.sqrt`, R338. -/
def execFsqrt (f : R1F) (s : State) : Out := r1Op (Config.fpSqrt s.mods.rounding) f s

/-- FADD: `fp.add`, R340. -/
def execFadd (f : R2F) (s : State) : Out := r2Op .float (Config.fpAdd s.mods.rounding) f s

/-- FSUB: `fp.sub`, R341. -/
def execFsub (f : R2F) (s : State) : Out := r2Op .float (Config.fpSub s.mods.rounding) f s

/-- FMUL: `fp.mul`, R342. -/
def execFmul (f : R2F) (s : State) : Out := r2Op .float (Config.fpMul s.mods.rounding) f s

/-- FDIV: `fp.div`, R343. -/
def execFdiv (f : R2F) (s : State) : Out := r2Op .float (Config.fpDiv s.mods.rounding) f s

/-- FDP: `fp.fdp`, R344. -/
def execFdp (f : R2F) (s : State) : Out := r4Op .float .float (Config.fpFdp s.mods.rounding) f s

/-- FMIN, R345. -/
def execFmin (f : R2F) (s : State) : Out := r2Op .float (fun a b => if fpCompare a b = .lt then a else b) f s

/-- FMAX, R346. -/
def execFmax (f : R2F) (s : State) : Out := r2Op .float (fun a b => if fpCompare a b = .gt then a else b) f s

/-- FCMP: -1.0, 0.0, 1.0 or 2.0, R350. -/
def execFcmp (f : R2F) (s : State) : Out := r2Op .float fpCompareWord f s

/-- SIGN, float form: FCMP with Rb = x0, R276. -/
def execSignF (f : RtF) (s : State) : Out :=
  withMods .plain s (elementOp f.v f.tt f.rt f.ta s.mods.maskSel (fun e => fpCompareWord (s.srcA f.ta f.ra e) 0#64) s)

/-- FCMPB: the outcomes as a bit vector, R351. -/
def execFcmpb (f : R2F) (s : State) : Out := r2Op .float fpCompareBits f s

/-- FSEQ, R352. -/
def execFseq (f : R2F) (s : State) : Out := r2Op .float (fun a b => boolWord (fpCompare a b == .eq)) f s

/-- FSLT, R353. -/
def execFslt (f : R2F) (s : State) : Out := r2Op .float (fun a b => boolWord (fpCompare a b == .lt)) f s

/-- FSLE, R354. -/
def execFsle (f : R2F) (s : State) : Out :=
  r2Op .float (fun a b => boolWord (fpCompare a b == .lt || fpCompare a b == .eq)) f s

/-- FSNE, R355. -/
def execFsne (f : R2F) (s : State) : Out := r2Op .float (fun a b => boolWord (fpCompare a b != .eq)) f s

/-- FSGT: FSLT with Ra and Rb exchanged; the fields are those of the FSLT word, R353. -/
def execFsgt (f : R2F) (s : State) : Out := r2Op .float (fun a b => boolWord (fpCompare a b == .lt)) f s

/-- FSGE: FSLE with Ra and Rb exchanged; the fields are those of the FSLE word, R354. -/
def execFsge (f : R2F) (s : State) : Out :=
  r2Op .float (fun a b => boolWord (fpCompare a b == .lt || fpCompare a b == .eq)) f s

end Sys2Proof.Machine
end

