-- ==== Sys2Proof/Machine/Flow.lean ====
section
/-! DEFINITION. Flow control (46_flow_control.md). -/

namespace Sys2Proof.Machine

/-- BEQ, R463. -/
def execBeq (f : BrF) (s : State) : Out := branchOp .signed (fun a b => a == b) f s

/-- BNE, R464. -/
def execBne (f : BrF) (s : State) : Out := branchOp .signed (fun a b => a != b) f s

/-- BLT, signed, R465. -/
def execBlt (f : BrF) (s : State) : Out := branchOp .signed (fun a b => a.slt b) f s

/-- BGE, signed, R466. -/
def execBge (f : BrF) (s : State) : Out := branchOp .signed (fun a b => b.sle a) f s

/-- BLTU, unsigned, R467. -/
def execBltu (f : BrF) (s : State) : Out := branchOp .unsigned (fun a b => a.ult b) f s

/-- BGEU, unsigned, R468. -/
def execBgeu (f : BrF) (s : State) : Out := branchOp .unsigned (fun a b => b.ule a) f s

/-- BBS: bit Rb of Ra is set, R469. -/
def execBbs (f : BrF) (s : State) : Out := branchOp .unsigned (fun a b => a.getLsbD (b.extractLsb' 0 6).toNat) f s

/-- BGT: BLT with Ra and Rb exchanged; the fields are those of the BLT word, R470. -/
def execBgt (f : BrF) (s : State) : Out := branchOp .signed (fun a b => a.slt b) f s

/-- BLE: BGE with Ra and Rb exchanged; the fields are those of the BGE word, R470. -/
def execBle (f : BrF) (s : State) : Out := branchOp .signed (fun a b => b.sle a) f s

/-- BGTU: BLTU with Ra and Rb exchanged; the fields are those of the BLTU word, R470. -/
def execBgtu (f : BrF) (s : State) : Out := branchOp .unsigned (fun a b => a.ult b) f s

/-- BLEU: BGEU with Ra and Rb exchanged; the fields are those of the BGEU word, R470. -/
def execBleu (f : BrF) (s : State) : Out := branchOp .unsigned (fun a b => b.ule a) f s

/-- The vector half of the branch opcodes raises UnimplementedInstruction, R460; behind modifiers of any kind too, DESIGN CHOICE,
log 32. -/
def execVectorBranch (_sel : BitVec 3) (s : State) : Out := .next (s.raise .unimplementedInstruction)

/-- JAL: link, then an absolute jump, R475. -/
def execJal (c26 : BitVec 26) (rt2 : BitVec 2) (s : State) : Out :=
  withMods .plain s (linkJump rt2 s.ipNext (zext c26) s)

/-- JMP: JAL without a link, R475. -/
def execJmp (c26 : BitVec 26) (s : State) : Out := withMods .plain s (.next (s.jump (zext c26)))

/-- BAL: link, then a relative jump in nybbles, R472. -/
def execBal (c26 : BitVec 26) (rt2 : BitVec 2) (s : State) : Out :=
  withMods .plain s (linkJump rt2 s.ipNext (s.ipWord + sext c26) s)

/-- BRA: BAL without a link, R473. -/
def execBra (c26 : BitVec 26) (s : State) : Out := withMods .plain s (.next (s.jump (s.ipWord + sext c26)))

/-- BSR: BAL with the link in x1, R473. -/
def execBsr (c26 : BitVec 26) (s : State) : Out := withMods .plain s (linkJump 1#2 s.ipNext (s.ipWord + sext c26) s)

/-- JALR: the link is the word's address plus twice Cnst5; x31 as the base is the word's address, R477. -/
def execJalr (f : JalrF) (s : State) : Out :=
  withMods .plain s
    (match s.scalarSpec f.ta2 f.ra with
    | none => misuse s
    | some a =>
      linkJump f.rt2 (s.ipWord + 2#64 * zext f.cnst5)
        ((if f.ta2 = 0#2 ∧ f.ra = 31#5 then s.ipWord else a) + sext f.c14) s)

/-- RET: a jump to x1, R478. -/
def execRet (s : State) : Out := withMods .plain s (.next (s.jump (s.reg 1#5)))

/-- CHK, immediate form: Rc between Ra and the immediate, R479. -/
def execChkI (f : ChkIF) (s : State) : Out :=
  withMods .extended s
    (if f.v then .refused .vectorCheck
    else if f.ta || isVec s.mods.rc.1 then misuse s
    else checkOp (withinBounds f.cn (s.reg f.ra) (s.opC .signed 0)
      (s.mods.imm (sext f.imm16) (f.imm16.extractLsb' 0 10))) s)

/-- CHK, register form: Rb between Ra and Rc, R481. -/
def execChkR (f : ChkRF) (s : State) : Out :=
  withMods .plain s
    (if f.v then .refused .vectorCheck
    else if f.ta || isVec f.tb || isVec s.mods.rc.1 then misuse s
    else checkOp (withinBounds f.cn (s.reg f.ra) (s.srcSpec .signed f.tb f.rb 0) (s.opC .signed 0)) s)

end Sys2Proof.Machine
end

