-- ==== Sys2Proof/Machine/Graphics.lean ====
section
/-! DEFINITION. Graphics (44_graphics.md). -/

namespace Sys2Proof.Machine

/-- BLEND, R400. -/
def execBlend (f : R2F) (s : State) : Out := r3Op .signed .signed blendPixel f s

/-- No coefficient has this number (R403). -/
def coeffMissing (n : Word) : Bool := decide (12 < n.toNat)

/-- coeff[n] (R402). -/
def coeffGet (table : Vector Word 13) (n : Word) : Word := if h : n.toNat < 13 then table[n.toNat] else 0#64

/-- coeff[n] <- w (R402). -/
def coeffPut (table : Vector Word 13) (n w : Word) : Vector Word 13 :=
  if h : n.toNat < 13 then table.set n.toNat w else table

/-- The coefficients after the active elements below `k` have written theirs, in ascending order (R403, R550). -/
def State.coeffsAfter (s : State) (sel : MaskSel) (num new : Nat → Word) : Nat → Vector Word 13
  | 0 => s.coeff
  | k + 1 =>
    if s.active sel k then coeffPut (s.coeffsAfter sel num new k) (num k) (new k) else s.coeffsAfter sel num new k

/-- RD_COEFF: the coefficient numbered by Ra; Rb is not used, R403. -/
def execRdCoeff (f : R2F) (s : State) : Out :=
  withMods .plain s
    (if f.v then
      if f.tt && (s.actives s.mods.maskSel).any (fun e => coeffMissing (s.srcA f.ta f.ra e)) && !s.vlTooLong then
        .refused .coefficientIndex
      else elementOp f.v f.tt f.rt f.ta s.mods.maskSel (fun e => coeffGet s.coeff (s.srcA f.ta f.ra e)) s
    else if !f.tt && !f.ta && coeffMissing (s.reg f.ra) then .refused .coefficientIndex
    else elementOp f.v f.tt f.rt f.ta s.mods.maskSel (fun _ => coeffGet s.coeff (s.reg f.ra)) s)

/-- WR_COEFF: the coefficient numbered by Ra takes Rb, Rt its old value; elements in ascending order, R403. -/
def execWrCoeff (f : R2F) (s : State) : Out :=
  withMods .plain s
    (let num := s.srcA f.ta f.ra
    let new := s.srcSpec .signed f.tb f.rb
    let sel := s.mods.maskSel
    if f.v then
      if !f.tt then misuse s
      else withVl s
        (if (s.actives sel).any (fun e => coeffMissing (num e)) then .refused .coefficientIndex
        else
          .next ({ s with coeff := s.coeffsAfter sel num new s.vlen }.setElems f.rt s.vlen
            (s.laneValue sel (fun e => coeffGet (s.coeffsAfter sel num new e) (num e)))).advance)
    else if f.tt || f.ta || isVec f.tb then misuse s
    else if coeffMissing (num 0) then .refused .coefficientIndex
    else
      .next ({ s with coeff := coeffPut s.coeff (num 0) (new 0) }.setReg f.rt (coeffGet s.coeff (num 0))).advance)

end Sys2Proof.Machine
end

