-- ==== Sys2Proof/Machine/LoadStore.lean ====
section
/-! DEFINITION. Loads, stores, LEA and CACHE (45_memory_ops.md). -/

namespace Sys2Proof.Machine

/-- LDx by its size field, R412. -/
def execLdx (func4 : BitVec 4) (f : LdF) (s : State) : Out := loadOp true func4 f s

/-- LDxZ by its size field, R413. -/
def execLdxZ (func4 : BitVec 4) (f : LdF) (s : State) : Out := loadOp false func4 f s

/-- LDxX by its size field, R414. -/
def execLdxX (func4 : BitVec 4) (f : LdxF) (s : State) : Out := loadXOp true func4 f s

/-- LDxXZ by its size field, R415. -/
def execLdxXZ (func4 : BitVec 4) (f : LdxF) (s : State) : Out := loadXOp false func4 f s

/-- LDB: load byte, sign-extended, R416. -/
def execLdb (f : LdF) (s : State) : Out := loadOp true 0#4 f s

/-- LDBZ: load byte, zero-extended, R417. -/
def execLdbz (f : LdF) (s : State) : Out := loadOp false 0#4 f s

/-- LDBX: indexed load byte, sign-extended, R416. -/
def execLdbx (f : LdxF) (s : State) : Out := loadXOp true 0#4 f s

/-- LDBXZ: indexed load byte, zero-extended, R417. -/
def execLdbxz (f : LdxF) (s : State) : Out := loadXOp false 0#4 f s

/-- LDW: load wyde, sign-extended, R418. -/
def execLdw (f : LdF) (s : State) : Out := loadOp true 1#4 f s

/-- LDWZ: load wyde, zero-extended, R419. -/
def execLdwz (f : LdF) (s : State) : Out := loadOp false 1#4 f s

/-- LDWX: indexed load wyde, sign-extended, R418. -/
def execLdwx (f : LdxF) (s : State) : Out := loadXOp true 1#4 f s

/-- LDWXZ: indexed load wyde, zero-extended, R419. -/
def execLdwxz (f : LdxF) (s : State) : Out := loadXOp false 1#4 f s

/-- LDT: load tetra, sign-extended, R420. -/
def execLdt (f : LdF) (s : State) : Out := loadOp true 2#4 f s

/-- LDTZ: load tetra, zero-extended, R421. -/
def execLdtz (f : LdF) (s : State) : Out := loadOp false 2#4 f s

/-- LDTX: indexed load tetra, sign-extended, R420. -/
def execLdtx (f : LdxF) (s : State) : Out := loadXOp true 2#4 f s

/-- LDTXZ: indexed load tetra, zero-extended, R421. -/
def execLdtxz (f : LdxF) (s : State) : Out := loadXOp false 2#4 f s

/-- LDO: load octa, sign-extended, R422. -/
def execLdo (f : LdF) (s : State) : Out := loadOp true 3#4 f s

/-- LDOZ: load octa, zero-extended, R422. -/
def execLdoz (f : LdF) (s : State) : Out := loadOp false 3#4 f s

/-- LDOX: indexed load octa, sign-extended, R422. -/
def execLdox (f : LdxF) (s : State) : Out := loadXOp true 3#4 f s

/-- LDOXZ: indexed load octa, zero-extended, R422. -/
def execLdoxz (f : LdxF) (s : State) : Out := loadXOp false 3#4 f s

/-- LEA: the effective address d + Ra + Rb * Sc, R430. -/
def execLea (f : LeaF) (s : State) : Out :=
  withMods .plain s
    (if f.tt || f.ta || isVec f.tb then misuse s
    else
      match sizeBytes f.size with
      | none => .refused .reservedSize
      | some n =>
        match scaleFactor f.sc n with
        | none => .refused .reservedScale
        | some k => .next (s.setReg f.rt (f.disp + s.reg f.ra + s.srcSpec .signed f.tb f.rb 0 * k)).advance)

/-- LEA, vector forms: d + Ra + Rb * x, or d + Ra + Vb[x], under the mask, R431. -/
def execLeaV (f : LeaVF) (s : State) : Out :=
  withMods .plain s
    (elementOp true true f.rt false (some (f.m3, f.z))
      (fun x => f.disp + s.reg f.ra +
        (if f.indexed then s.elem f.rb x else s.reg f.rb * BitVec.ofNat 64 x)) s)

/-- STx by its size field, R436. -/
def execStx (func4 : BitVec 4) (f : StF) (s : State) : Out :=
  match sizeBytes func4 with
  | some n => storeOp (storeAt n) f s
  | none =>
    if func4 = 7#4 then storeOp storePointerAt f s
    else withMods .extended s (if f.ta || isVec f.tb then misuse s else .refused .reservedSize)

/-- STxX by its size field, R437. -/
def execStxX (func4 : BitVec 4) (f : StxF) (s : State) : Out :=
  match sizeBytes func4 with
  | some n => storeXOp n (storeAt n) f s
  | none =>
    if func4 = 7#4 then storeXOp 8 storePointerAt f s
    else withMods .plain s (if f.ta || isVec f.tb || isVec s.mods.rc.1 then misuse s else .refused .reservedSize)

/-- STB: store byte, R438. -/
def execStb (f : StF) (s : State) : Out := storeOp (storeAt 1) f s

/-- STBX: indexed store byte, R438. -/
def execStbx (f : StxF) (s : State) : Out := storeXOp 1 (storeAt 1) f s

/-- STW: store wyde, R439. -/
def execStw (f : StF) (s : State) : Out := storeOp (storeAt 2) f s

/-- STWX: indexed store wyde, R439. -/
def execStwx (f : StxF) (s : State) : Out := storeXOp 2 (storeAt 2) f s

/-- STT: store tetra, R440. -/
def execStt (f : StF) (s : State) : Out := storeOp (storeAt 4) f s

/-- STTX: indexed store tetra, R440. -/
def execSttx (f : StxF) (s : State) : Out := storeXOp 4 (storeAt 4) f s

/-- STO: store octa, R441. -/
def execSto (f : StF) (s : State) : Out := storeOp (storeAt 8) f s

/-- STOX: indexed store octa, R441. -/
def execStox (f : StxF) (s : State) : Out := storeXOp 8 (storeAt 8) f s

/-- STPTR: store pointer, R446. -/
def execStptr (f : StF) (s : State) : Out := storeOp storePointerAt f s

/-- STPTRX: indexed store pointer, R446. -/
def execStptrx (f : StxF) (s : State) : Out := storeXOp 8 storePointerAt f s

/-- STBZ: store byte and zero the register, R443. -/
def execStbz (f : StF) (s : State) : Out := storeOp (storeZeroAt 1 f) f s

/-- STWZ: store wyde and zero the register, R443. -/
def execStwz (f : StF) (s : State) : Out := storeOp (storeZeroAt 2 f) f s

/-- STTZ: store tetra and zero the register, R443. -/
def execSttz (f : StF) (s : State) : Out := storeOp (storeZeroAt 4 f) f s

/-- STOZ: store octa and zero the register, R443. -/
def execStoz (f : StF) (s : State) : Out := storeOp (storeZeroAt 8 f) f s

/-- The effect of the two cache commands at an address (R96, R410): the data-cache enable bit, and the stored code
that fetches see, for the line of the address or everywhere. DESIGN CHOICE, log 20: the address of an invalidated line is
translated as an instruction fetch is, and without a translation for a fetch the command is refused; the spec does not say
whether or how it is translated (R96, R102, R410, R671). -/
def cacheCommand (ic3 dc3 : BitVec 3) (ea : Word) (s : State) : Out :=
  let t := { s with dcacheEnable := if dc3 = 1#3 then true else if dc3 = 2#3 then false else s.dcacheEnable }
  if ic3 = 1#3 then
    match s.translate .fetch ea with
    | .error e => .refused e
    | .ok p => .next { t with stale := freshLine s.cfg.icacheLine s.stale p }.advance
  else if ic3 = 2#3 then .next { t with stale := [] }.advance
  else .next t.advance

/-- CACHE, R410. DESIGN CHOICE, log 40: it does not count among the LDx displacement forms that take EXI words, and is refused
behind them (R153, R183 and R410 do not say). -/
def execCache (f : CacheF) (s : State) : Out :=
  withMods .plain s
    (if f.ta then misuse s
    else withSysPriv s
      (if 3 ≤ f.ic3.toNat ∨ 5 ≤ f.dc3.toNat then .refused .reservedCacheCommand
      else cacheCommand f.ic3 f.dc3 (s.reg f.ra + sext f.disp12) s))

end Sys2Proof.Machine
end

