-- ==== Sys2Proof/Machine/Logic.lean ====
section
/-! DEFINITION. Logic, shifts, extension and counting (41_arith_a.md, 42_arith_b.md), scalar and vector forms. -/

namespace Sys2Proof.Machine

/-- COM: bitwise complement, R218. -/
def execCom (f : R1F) (s : State) : Out := r1Op (fun a => ~~~a) f s

/-- NOT: 1 if zero, else 0, R260. -/
def execNotL (f : R1F) (s : State) : Out := r1Op (fun a => boolWord (a == 0#64)) f s

/-- AND, immediate form: the constant is one-extended, R205. -/
def execAndI (f : RIF) (s : State) : Out := riOp oext (fun a i => a &&& i) f s

/-- AND, register form, R206. -/
def execAndR (f : R2F) (s : State) : Out := r2Op .signed (fun a b => a &&& b) f s

/-- OR, immediate form, R261. -/
def execOrI (f : RIF) (s : State) : Out := riOp zext (fun a i => a ||| i) f s

/-- OR, register form, with a third source, R262. -/
def execOrR (f : R2F) (s : State) : Out := r3Op .signed .signed (fun a b c => a ||| b ||| c) f s

/-- XOR, immediate form, R300. -/
def execXorI (f : RIF) (s : State) : Out := riOp zext (fun a i => a ^^^ i) f s

/-- XOR, register form, with a third source, R301. -/
def execXorR (f : R2F) (s : State) : Out := r3Op .signed .signed (fun a b c => a ^^^ b ^^^ c) f s

/-- EOR, the alternate mnemonic of XOR, immediate form, R227. -/
def execEorI (f : RIF) (s : State) : Out := riOp zext (fun a i => a ^^^ i) f s

/-- EOR, the alternate mnemonic of XOR, register form, R227. -/
def execEorR (f : R2F) (s : State) : Out := r3Op .signed .signed (fun a b c => a ^^^ b ^^^ c) f s

/-- NAND, R312. -/
def execNand (f : R2F) (s : State) : Out := r2Op .signed (fun a b => ~~~(a &&& b)) f s

/-- NOR, R312. -/
def execNor (f : R2F) (s : State) : Out := r2Op .signed (fun a b => ~~~(a ||| b)) f s

/-- XNOR, R312. -/
def execXnor (f : R2F) (s : State) : Out := r2Op .signed (fun a b => ~~~(a ^^^ b)) f s

/-- MUX: bits of Rb where Ra is set, of Rc where it is clear, R257. -/
def execMux (f : R2F) (s : State) : Out := r3Op .signed .signed (fun a b c => (a &&& b) ||| (~~~a &&& c)) f s

/-- BMM: bit matrix product with OR, R207. -/
def execBmm (f : R2F) (s : State) : Out := r2Op .signed matrixMulOr f s

/-- MOR, the alternate mnemonic of BMM, R207. -/
def execMorB (f : R2F) (s : State) : Out := r2Op .signed matrixMulOr f s

/-- MXOR: bit matrix product with exclusive or, R208. -/
def execMxorB (f : R2F) (s : State) : Out := r2Op .signed matrixMulXor f s

/-- SLL: the count is the low six bits of Rb, R277. -/
def execSll (f : R2F) (s : State) : Out := r2Op .unsigned (fun a b => a <<< (b.extractLsb' 0 6).toNat) f s

/-- SLLI, R277. -/
def execSlli (f : ShiftF) (s : State) : Out := shiftOp (fun a n => a <<< n.toNat) f s

/-- SRL: the count is the low six bits of Rb, R278. -/
def execSrl (f : R2F) (s : State) : Out := r2Op .unsigned (fun a b => a >>> (b.extractLsb' 0 6).toNat) f s

/-- SRLI, R278. -/
def execSrli (f : ShiftF) (s : State) : Out := shiftOp (fun a n => a >>> n.toNat) f s

/-- SLLP: the upper half of the pair {Ra, Rc} shifted left, R279. -/
def execSllp (f : R2F) (s : State) : Out :=
  r3Op .unsigned .signed (fun a b c => shiftPairLeft a c (b.extractLsb' 0 6)) f s

/-- SLLPI: SLLP with a six-bit count, R279. -/
def execSllpi (f : ShiftF) (s : State) : Out :=
  withMods .plain s
    (elementOp f.v f.tt f.rt (f.ta || isVec s.mods.rc.1) s.mods.maskSel
      (fun e => shiftPairLeft (s.srcA f.ta f.ra e) (s.opC .signed e) f.imm6) s)

/-- CNTLZ: the number of leading zeros, 64 for 0, R217. -/
def execCntlz (f : R1F) (s : State) : Out := r1Op (fun a => BitVec.ofNat 64 (leadingZeros a)) f s

/-- CNTLO: the number of leading ones, R310. -/
def execCntlo (f : R1F) (s : State) : Out := r1Op (fun a => BitVec.ofNat 64 (leadingZeros (~~~a))) f s

/-- CNTPOP: the number of ones, R216. -/
def execCntpop (f : R1F) (s : State) : Out := r1Op (fun a => BitVec.ofNat 64 (popCount a)) f s

/-- ZXB: zero-extended byte, R302. -/
def execZxb (f : R1F) (s : State) : Out := r1Op (fun a => zext (a.extractLsb' 0 8)) f s

/-- ZXW: zero-extended wyde, R302. -/
def execZxw (f : R1F) (s : State) : Out := r1Op (fun a => zext (a.extractLsb' 0 16)) f s

/-- ZXT: zero-extended tetra, R302. -/
def execZxt (f : R1F) (s : State) : Out := r1Op (fun a => zext (a.extractLsb' 0 32)) f s

/-- SXB: sign-extended byte, R311. -/
def execSxb (f : R1F) (s : State) : Out := r1Op (fun a => sext (a.extractLsb' 0 8)) f s

/-- SXW: sign-extended wyde, R311. -/
def execSxw (f : R1F) (s : State) : Out := r1Op (fun a => sext (a.extractLsb' 0 16)) f s

/-- SXT: sign-extended tetra, R311. -/
def execSxt (f : R1F) (s : State) : Out := r1Op (fun a => sext (a.extractLsb' 0 32)) f s

end Sys2Proof.Machine
end

