-- ==== Sys2Proof/Machine/MaskOps.lean ====
section
/-! DEFINITION. Mask-register and vector-length instructions (R560 to R579), set-mask comparisons (R585, R586). -/

namespace Sys2Proof.Machine

/-- MAND, R570. -/
def execMand (f : Vm3F) (s : State) : Out := maskOp (fun a b => a &&& b) f s

/-- MOR of masks, R571. -/
def execMorM (f : Vm3F) (s : State) : Out := maskOp (fun a b => a ||| b) f s

/-- MXOR of masks, R572. -/
def execMxorM (f : Vm3F) (s : State) : Out := maskOp (fun a b => a ^^^ b) f s

/-- MADD: modulo 2^VLMAX, R573. -/
def execMadd (f : Vm3F) (s : State) : Out := maskOp (fun a b => a + b) f s

/-- MSUB: modulo 2^VLMAX, R574. -/
def execMsub (f : Vm3F) (s : State) : Out := maskOp (fun a b => a - b) f s

/-- MSLL: modulo 2^VLMAX, R575. -/
def execMsll (f : VmShiftF) (s : State) : Out :=
  withMods .plain s (.next (s.setMask f.vmt (s.mask f.vma <<< f.imm6.toNat)).advance)

/-- MSRL, R576. -/
def execMsrl (f : VmShiftF) (s : State) : Out :=
  withMods .plain s (.next (s.setMask f.vmt (s.mask f.vma >>> f.imm6.toNat)).advance)

/-- MNAND, R577. -/
def execMnand (f : Vm3F) (s : State) : Out := maskOp (fun a b => ~~~(a &&& b)) f s

/-- MNOR, R577. -/
def execMnor (f : Vm3F) (s : State) : Out := maskOp (fun a b => ~~~(a ||| b)) f s

/-- MXNOR, R577. -/
def execMxnor (f : Vm3F) (s : State) : Out := maskOp (fun a b => ~~~(a ^^^ b)) f s

/-- MFILL: the first Ra bits set, R561. -/
def execMfill (f : VmPutF) (s : State) : Out := maskPutOp (fun a => bitsOf 128 (fun x => decide (x < a.toNat))) f s

/-- MPOP, R578. -/
def execMpop (f : VmGetF) (s : State) : Out := maskGetOp (fun m => BitVec.ofNat 64 (popCount m)) f s

/-- MFIRST: 128 if no bit is set, R562. -/
def execMfirst (f : VmGetF) (s : State) : Out := maskGetOp (fun m => BitVec.ofNat 64 ((lowestBit? m).getD 128)) f s

/-- MLAST: 128 if no bit is set, R563. -/
def execMlast (f : VmGetF) (s : State) : Out := maskGetOp (fun m => BitVec.ofNat 64 ((highestBit? m).getD 128)) f s

/-- CNTLZ, mask-register form: the leading zeros of VLMAX bits, R579. -/
def execCntlzM (f : VmGetF) (s : State) : Out :=
  maskGetOp (fun m => BitVec.ofNat 64 (leadingZeros m - (128 - s.cfg.vlmax))) f s

/-- MTM, R564. -/
def execMtm (f : VmPutF) (s : State) : Out := maskPutOp (fun a => a.setWidth 128) f s

/-- MFM, R565. -/
def execMfm (f : VmGetF) (s : State) : Out := maskGetOp (fun m => m.setWidth 64) f s

/-- MTVL, R566. -/
def execMtvl (f : VlPutF) (s : State) : Out :=
  withMods .plain s
    (match s.scalarSpec f.ta2 f.ra with
    | none => misuse s
    | some w => .next { s with vl := w }.advance)

/-- MFVL, R567. -/
def execMfvl (f : VlGetF) (s : State) : Out :=
  withMods .plain s (if f.tt2 = 0#2 then .next (s.setReg f.rt s.vl).advance else misuse s)

/-- SETM: integer set-mask comparison, R585. -/
def execSetm (f : SetMaskF) (s : State) : Out := setMaskOp .signed maskCondition f s

/-- FSETM: float set-mask comparison, R586. -/
def execFsetm (f : SetMaskF) (s : State) : Out := setMaskOp .float fpMaskCondition f s

end Sys2Proof.Machine
end

