-- ==== Sys2Proof/Machine/Modifiers.lean ====
section
/-! DEFINITION. Modifier words (40_modifiers.md): each records its fields; the instruction that ends the bundle uses them. -/

namespace Sys2Proof.Machine

/-- EXI0: constant bits for the instruction that follows, R183. -/
def execExi0 (payload : BitVec 28) (s : State) : Out :=
  if s.mods = Mods.empty then
    .next { s with mods := { s.mods with exi0 := some payload } }
  else .refused .malformedBundle

/-- EXI1: constant bits for the instruction that follows, R183. -/
def execExi1 (payload : BitVec 28) (s : State) : Out :=
  if s.mods.exi0.isSome ∧ s.mods.exi1 = none ∧ s.mods.tail = none then
    .next { s with mods := { s.mods with exi1 := some payload } }
  else .refused .malformedBundle

/-- EXI2: constant bits for the instruction that follows, R183. -/
def execExi2 (payload : BitVec 28) (s : State) : Out :=
  if s.mods.exi1.isSome ∧ s.mods.exi2 = none ∧ s.mods.tail = none then
    .next { s with mods := { s.mods with exi2 := some payload } }
  else .refused .malformedBundle

/-- A modifier that may stand last before the instruction: at most one (R182). -/
def tailOp (m : ModTail) (s : State) : Out :=
  if s.mods.tail = none then .next { s with mods := { s.mods with tail := some m } }
  else .refused .malformedBundle

/-- IMOD: Rc, Rd, mask and rounding mode for the instruction that follows, R184. -/
def execImod (f : ImodF) (s : State) : Out := tailOp (.imod f) s

/-- BTFLD: as IMOD, R186. -/
def execBtfld (f : ImodF) (s : State) : Out := tailOp (.btfld f) s

/-- BRMOD: base, link and displacement for the branch that follows, R187. -/
def execBrmod (f : BrmodF) (s : State) : Out := tailOp (.brmod f) s

/-- STRIDE: stride, mask and displacement for the vector load or store that follows, R188. -/
def execStride (f : StrideF) (s : State) : Out := tailOp (.stride f) s

end Sys2Proof.Machine
end

