-- ==== Sys2Proof/Machine/Named.lean ====
section
/-! DEFINITION. Instructions that the spec names without an effect: the model refuses each (R171 (b)). -/

namespace Sys2Proof.Machine

/-- TST: the model refuses it, R323. -/
def execTst (_s : State) : Out := namedOnly .mapNameOnly

/-- PTRINC: the model refuses it, R323. -/
def execPtrinc (_s : State) : Out := namedOnly .mapNameOnly

/-- TRANSFORM: the model refuses it, R401. -/
def execTransform (_s : State) : Out := namedOnly .noFormula

/-- MULH: the model refuses it, R323. -/
def execMulh (_s : State) : Out := namedOnly .mapNameOnly

/-- DIVSU: the model refuses it, R323. -/
def execDivsuR (_s : State) : Out := namedOnly .mapNameOnly

/-- REMSU: the model refuses it, R323. -/
def execRemsuR (_s : State) : Out := namedOnly .mapNameOnly

/-- MULSU: the model refuses it, R323. -/
def execMulsuR (_s : State) : Out := namedOnly .mapNameOnly

/-- MULSUH: the model refuses it, R323. -/
def execMulsuh (_s : State) : Out := namedOnly .mapNameOnly

/-- MULUH: the model refuses it, R323. -/
def execMuluh (_s : State) : Out := namedOnly .mapNameOnly

/-- RGF: the model refuses it, R323. -/
def execRgf (_s : State) : Out := namedOnly .mapNameOnly

/-- MORT: the model refuses it, R209. -/
def execMort (_s : State) : Out := namedOnly .transposeUnspecified

/-- MXORT: the model refuses it, R209. -/
def execMxort (_s : State) : Out := namedOnly .transposeUnspecified

/-- DIVSU: the model refuses it, R323. -/
def execDivsuI (_s : State) : Out := namedOnly .mapNameOnly

/-- MULSU: the model refuses it, R323. -/
def execMulsuI (_s : State) : Out := namedOnly .mapNameOnly

/-- REMSU: the model refuses it, R323. -/
def execRemsuI (_s : State) : Out := namedOnly .mapNameOnly

/-- SAND: the model refuses it, R323. -/
def execSand (_s : State) : Out := namedOnly .mapNameOnly

/-- SOR: the model refuses it, R323. -/
def execSor (_s : State) : Out := namedOnly .mapNameOnly

/-- SET: the model refuses it, R323. -/
def execSetGroup (_s : State) : Out := namedOnly .mapNameOnly

/-- DF1: the model refuses it, R362. -/
def execDf1 (_s : State) : Out := namedOnly .mapNameOnly

/-- DF2: the model refuses it, R362. -/
def execDf2 (_s : State) : Out := namedOnly .mapNameOnly

/-- PST1: the model refuses it, R362. -/
def execPst1 (_s : State) : Out := namedOnly .mapNameOnly

/-- PST2: the model refuses it, R362. -/
def execPst2 (_s : State) : Out := namedOnly .mapNameOnly

/-- DF3: the model refuses it, R323. -/
def execDf3 (_s : State) : Out := namedOnly .mapNameOnly

/-- DF4: the model refuses it, R323. -/
def execDf4 (_s : State) : Out := namedOnly .mapNameOnly

/-- PST3: the model refuses it, R323. -/
def execPst3 (_s : State) : Out := namedOnly .mapNameOnly

/-- PST4: the model refuses it, R323. -/
def execPst4 (_s : State) : Out := namedOnly .mapNameOnly

/-- FRSQRTE: the model refuses it, R361. -/
def execFrsqrte (_s : State) : Out := namedOnly .mapNameOnly

/-- FTOI: the model refuses it, R361. -/
def execFtoi (_s : State) : Out := namedOnly .mapNameOnly

/-- ITOF: the model refuses it, R361. -/
def execItof (_s : State) : Out := namedOnly .mapNameOnly

/-- FSIGN: the model refuses it, R361. -/
def execFsign (_s : State) : Out := namedOnly .mapNameOnly

/-- FMAN: the model refuses it, R361. -/
def execFman (_s : State) : Out := namedOnly .mapNameOnly

/-- FS2D: the model refuses it, R361. -/
def execFs2d (_s : State) : Out := namedOnly .mapNameOnly

/-- FS2Q: the model refuses it, R361. -/
def execFs2q (_s : State) : Out := namedOnly .mapNameOnly

/-- FD2Q: the model refuses it, R361. -/
def execFd2q (_s : State) : Out := namedOnly .mapNameOnly

/-- FSTAT: the model refuses it, R333. -/
def execFstat (_s : State) : Out := namedOnly .mapNameOnly

/-- ISNAN: the model refuses it, R361. -/
def execIsnan (_s : State) : Out := namedOnly .mapNameOnly

/-- FINITE: the model refuses it, R361. -/
def execFinite (_s : State) : Out := namedOnly .mapNameOnly

/-- FTX: the model refuses it, R333. -/
def execFtx (_s : State) : Out := namedOnly .mapNameOnly

/-- FCX: the model refuses it, R333. -/
def execFcx (_s : State) : Out := namedOnly .mapNameOnly

/-- FEX: the model refuses it, R333. -/
def execFex (_s : State) : Out := namedOnly .mapNameOnly

/-- FDX: the model refuses it, R333. -/
def execFdx (_s : State) : Out := namedOnly .mapNameOnly

/-- FRM: the model refuses it, R333. -/
def execFrm (_s : State) : Out := namedOnly .mapNameOnly

/-- TRUNC: the model refuses it, R361. -/
def execTrunc (_s : State) : Out := namedOnly .mapNameOnly

/-- FSYNC: the model refuses it, R333. -/
def execFsync (_s : State) : Out := namedOnly .mapNameOnly

/-- FRES: the model refuses it, R361. -/
def execFres (_s : State) : Out := namedOnly .mapNameOnly

/-- FSIGMOID: the model refuses it, R361. -/
def execFsigmoid (_s : State) : Out := namedOnly .mapNameOnly

/-- FD2S: the model refuses it, R361. -/
def execFd2s (_s : State) : Out := namedOnly .mapNameOnly

/-- FQ2S: the model refuses it, R361. -/
def execFq2s (_s : State) : Out := namedOnly .mapNameOnly

/-- FQ2D: the model refuses it, R361. -/
def execFq2d (_s : State) : Out := namedOnly .mapNameOnly

/-- FCLASS: the model refuses it, R361. -/
def execFclass1 (_s : State) : Out := namedOnly .mapNameOnly

/-- UNORD: the model refuses it, R361. -/
def execUnord (_s : State) : Out := namedOnly .mapNameOnly

/-- SCALEB: the model refuses it, R361. -/
def execScaleb (_s : State) : Out := namedOnly .mapNameOnly

/-- FREM: the model refuses it, R361. -/
def execFrem (_s : State) : Out := namedOnly .mapNameOnly

/-- FNXT: the model refuses it, R361. -/
def execFnxt (_s : State) : Out := namedOnly .mapNameOnly

/-- FAND: the model refuses it, R361. -/
def execFandB (_s : State) : Out := namedOnly .mapNameOnly

/-- FOR: the model refuses it, R361. -/
def execForB (_s : State) : Out := namedOnly .mapNameOnly

/-- CPYSGN: the model refuses it, R361. -/
def execCpysgn (_s : State) : Out := namedOnly .mapNameOnly

/-- SGNINV: the model refuses it, R361. -/
def execSgninv (_s : State) : Out := namedOnly .mapNameOnly

/-- SGNAND: the model refuses it, R361. -/
def execSgnand (_s : State) : Out := namedOnly .mapNameOnly

/-- SGNOR: the model refuses it, R361. -/
def execSgnor (_s : State) : Out := namedOnly .mapNameOnly

/-- SGNXOR: the model refuses it, R361. -/
def execSgnxor (_s : State) : Out := namedOnly .mapNameOnly

/-- SGNXNOR: the model refuses it, R361. -/
def execSgnxnor (_s : State) : Out := namedOnly .mapNameOnly

/-- FCLASS: the model refuses it, R361. -/
def execFclass2 (_s : State) : Out := namedOnly .mapNameOnly

/-- FMA: the model refuses it, R360. -/
def execFma (_s : State) : Out := namedOnly .mapNameOnly

/-- FMS: the model refuses it, R360. -/
def execFms (_s : State) : Out := namedOnly .mapNameOnly

/-- FNMA: the model refuses it, R360. -/
def execFnma (_s : State) : Out := namedOnly .mapNameOnly

/-- FNMS: the model refuses it, R360. -/
def execFnms (_s : State) : Out := namedOnly .mapNameOnly

/-- FBLT: the model refuses it, R480. -/
def execFblt (_s : State) : Out := namedOnly .mapNameOnly

/-- FBGE: the model refuses it, R480. -/
def execFbge (_s : State) : Out := namedOnly .mapNameOnly

/-- DFBLT: the model refuses it, R480. -/
def execDfblt (_s : State) : Out := namedOnly .mapNameOnly

/-- DFBGE: the model refuses it, R480. -/
def execDfbge (_s : State) : Out := namedOnly .mapNameOnly

/-- FBEQ: the model refuses it, R480. -/
def execFbeq (_s : State) : Out := namedOnly .mapNameOnly

/-- FBNE: the model refuses it, R480. -/
def execFbne (_s : State) : Out := namedOnly .mapNameOnly

/-- EXI3: the model refuses it, R190. -/
def execExi3 (_s : State) : Out := namedOnly .undescribedModifier

/-- EXI4: the model refuses it, R190. -/
def execExi4 (_s : State) : Out := namedOnly .undescribedModifier

/-- unnamed_modifier_5B: the model refuses it, R190. -/
def execUnnamed5B (_s : State) : Out := namedOnly .undescribedModifier

/-- vector-half_modifiers_D8..DC: the model refuses it, R189. -/
def execVectorHalf (_s : State) : Out := namedOnly .undescribedModifier

/-- LSM: the model refuses it, R450. -/
def execLsm (_s : State) : Out := namedOnly .mapNameOnly

/-- LLAL: the model refuses it, R530. -/
def execLlal (_s : State) : Out := namedOnly .mapNameOnly

/-- LLAH: the model refuses it, R530. -/
def execLlah (_s : State) : Out := namedOnly .mapNameOnly

/-- LPAL: the model refuses it, R531. -/
def execLpal (_s : State) : Out := namedOnly .mapNameOnly

/-- LPAH: the model refuses it, R531. -/
def execLpah (_s : State) : Out := namedOnly .mapNameOnly

/-- SETKEY: the model refuses it, R532. -/
def execSetkey (_s : State) : Out := namedOnly .mapNameOnly

/-- SETTO: the model refuses it, R533. -/
def execSetto (_s : State) : Out := namedOnly .mapNameOnly

/-- GETTO: the model refuses it, R533. -/
def execGetto (_s : State) : Out := namedOnly .mapNameOnly

/-- GETZL: the model refuses it, R534. -/
def execGetzl (_s : State) : Out := namedOnly .mapNameOnly

/-- MVSEG: the model refuses it, R535. -/
def execMvseg (_s : State) : Out := namedOnly .mapNameOnly

end Sys2Proof.Machine
end

