-- ==== Sys2Proof/Machine/System.lean ====
section
/-! DEFINITION. System instructions (47_system.md). -/

namespace Sys2Proof.Machine

/-- BRK: the trap sequence with the instruction's cause, R500. -/
def execBrk (cause : BitVec 8) (s : State) : Out := withMods .plain s (.next (s.takeTrap cause))

/-- CSRx by its Op2 field, R501. -/
def execCsrx (op2 : BitVec 2) (f : CsrF) (s : State) : Out := csrOp op2 f s

/-- CSRR, CSRx with Op2 = 0, R501. -/
def execCsrr (f : CsrF) (s : State) : Out := csrOp 0#2 f s

/-- CSRW, CSRx with Op2 = 1, R501. -/
def execCsrw (f : CsrF) (s : State) : Out := csrOp 1#2 f s

/-- CSRS, CSRx with Op2 = 2, R501. -/
def execCsrs (f : CsrF) (s : State) : Out := csrOp 2#2 f s

/-- CSRC, CSRx with Op2 = 3, R501. -/
def execCsrc (f : CsrF) (s : State) : Out := csrOp 3#2 f s

/-- PUSH: Ra onto the queue numbered by Rb, R511. -/
def execPush (f : SysF) (s : State) : Out :=
  withMods .plain s
    (if sysVec f.ra6 || sysVec f.rb6 then misuse s
    else pushTo ((s.reg (sysReg f.rb6)).extractLsb' 0 6) (s.reg (sysReg f.ra6)) s)

/-- PUSHI: Ra onto the queue numbered by the immediate, R511. -/
def execPushi (f : SysF) (s : State) : Out :=
  withMods .plain s
    (if sysVec f.ra6 then misuse s else pushTo f.rb6 (s.reg (sysReg f.ra6)) s)

/-- POP: the queue numbered by Ra, R512. -/
def execPop (f : SysF) (s : State) : Out :=
  withMods .plain s
    (if sysVec f.ra6 || sysVec f.rt6 then misuse s
    else popFrom ((s.reg (sysReg f.ra6)).extractLsb' 0 6) (sysReg f.rt6) s)

/-- POPI: the queue numbered by the immediate, R512. -/
def execPopi (f : SysF) (s : State) : Out :=
  withMods .plain s (if sysVec f.rt6 then misuse s else popFrom f.ra6 (sysReg f.rt6) s)

/-- PEEK: the queue numbered by Ra, R513. -/
def execPeek (f : SysF) (s : State) : Out :=
  withMods .plain s
    (if sysVec f.ra6 || sysVec f.rt6 then misuse s
    else peekFrom ((s.reg (sysReg f.ra6)).extractLsb' 0 6) (sysReg f.rt6) s)

/-- PEEKI: the queue numbered by the immediate, R513. -/
def execPeeki (f : SysF) (s : State) : Out :=
  withMods .plain s (if sysVec f.rt6 then misuse s else peekFrom f.ra6 (sysReg f.rt6) s)

/-- STAT: the queue numbered by Ra, R514. -/
def execStat (f : SysF) (s : State) : Out :=
  withMods .plain s
    (if sysVec f.ra6 || sysVec f.rt6 then misuse s
    else statOf ((s.reg (sysReg f.ra6)).extractLsb' 0 6) (sysReg f.rt6) s)

/-- STATI: the queue numbered by the immediate, R514. -/
def execStati (f : SysF) (s : State) : Out :=
  withMods .plain s (if sysVec f.rt6 then misuse s else statOf f.ra6 (sysReg f.rt6) s)

/-- PFI: service an interrupt that is present, else no operation, R518. -/
def execPfi (s : State) : Out :=
  withMods .plain s
    (match s.irq with
    | some c => .next (s.takeTrap c)
    | none => .next s.advance)

/-- WFI: wait, R528. -/
def execWfi (s : State) : Out := withMods .plain s (.next { s with waiting := true }.advance)

/-- SYNC: no operation in a machine that runs in order, R526. -/
def execSync (s : State) : Out := withMods .plain s (.next s.advance)

/-- NOP, R173; with v = 1 it is behind the check of VL, R552. -/
def execNop (v : Bool) (s : State) : Out :=
  withMods .plain s (if v then withVl s (.next s.advance) else .next s.advance)

/-- TLBRW: read the entry that Ra selects and, if bit 63 of Ra is set, write it, R524. -/
def execTlbrw (f : SysF) (s : State) : Out :=
  withMods .plain s
    (if sysVec f.ra6 || sysVec f.rb6 || sysVec f.rt6 then misuse s
    else withSysPriv s
      (let sel := s.reg (sysReg f.ra6)
      let way := sel.extractLsb' 10 2
      let entry := sel.extractLsb' 0 10
      let old := s.tlbEntry way entry
      let t := if sel.getLsbD 63 then
          { s with tlb := sparseSet 0#64 s.tlb (tlbKey way entry) (s.reg (sysReg f.rb6)) }
        else s
      .next (t.setReg (sysReg f.rt6) old).advance))

/-- An empty cell of the {OSR2} map raises UnimplementedInstruction, R538; behind modifiers of any kind too, DESIGN CHOICE,
log 32. -/
def execSysOther (_func7 : BitVec 7) (_f : SysF) (s : State) : Out := .next (s.raise .unimplementedInstruction)

/-- The modes a redirection can name (R520). -/
def lowerMode (tm : BitVec 3) : Option Mode :=
  match tm with
  | 0#3 => some .user
  | 1#3 => some .supervisor
  | 2#3 => some .hypervisor
  | 3#3 => some .machine
  | _ => none

/-- `rex_enabled` (R520): debug mode is no target. -/
def State.rexEnabled (s : State) (m : Mode) : Bool :=
  match s.cfg.rexEnabled, m with
  | _, .debug => false
  | .table v, .user => v[0]
  | .table v, .supervisor => v[1]
  | .table v, .hypervisor => v[2]
  | .table v, .machine => v[3]
  | .other n, m => Config.rexEnabledBy n s m

/-- `pm_encode` of a mode with interrupts disabled (R651); debug is the entry of R43. -/
def State.rexEntry (s : State) : Mode → BitVec 4
  | .user => s.cfg.pmEncode[0]
  | .supervisor => s.cfg.pmEncode[1]
  | .hypervisor => s.cfg.pmEncode[2]
  | .machine => s.cfg.pmEncode[3]
  | .debug => 10#4

/-- An operand of RTE: a six-bit immediate or a scalar register, none for a vector register (R522). -/
def State.rteOperand (s : State) (immediate : Bool) (x : BitVec 6) : Option Word :=
  if immediate then some (zext x) else if sysVec x then none else some (s.reg (sysReg x))

/-- REX: redirect to the lower mode Tm3, or go on if it is not enabled there, R520. -/
def execRex (f : SysF) (s : State) : Out :=
  withMods .plain s
    (match lowerMode (f.ra6.extractLsb' 0 3) with
    | none => .refused .rexTarget
    | some target =>
      if s.mode.index.val ≤ target.index.val then .refused .rexTarget
      else if s.rexEnabled target then .next (s.redirect target (s.rexEntry target))
      else .next s.advance)

/-- RTE: return, past Ra instruction words, clearing semaphore 0 and semaphore Rb, R522. -/
def execRte (f : SysF) (s : State) : Out :=
  withMods .plain s
    (match s.rteOperand (f.rt6.getLsbD 0) f.ra6, s.rteOperand (f.rt6.getLsbD 1) f.rb6 with
    | some a, some b => .next (s.returnFromTrap a (b.extractLsb' 0 6))
    | _, _ => misuse s)

end Sys2Proof.Machine
end

