-- ==== Sys2Proof/Machine/VectorOps.lean ====
section
/-! DEFINITION. Vector-specific instructions, vector loads and stores (48_vector.md). -/

namespace Sys2Proof.Machine

/-- V2BITS: the low bits of the elements into a scalar register, R580. -/
def execV2bits (f : R1F) (s : State) : Out :=
  withMods .plain s
    (if !f.v || !f.ta || f.tt then misuse s
    else withVl s
      (.next (s.setReg f.rt (bitsOf 64 (fun x =>
        if x < s.vlen then
          if s.active (some (f.m3, f.z)) x then (s.elem f.ra x).getLsbD 0
          else if f.z then false
          else (s.reg f.rt).getLsbD x
        else (s.reg f.rt).getLsbD x))).advance))

/-- VBITS2V: the bits of a scalar register into the elements, R581. -/
def execVbits2v (f : R1F) (s : State) : Out :=
  withMods .plain s
    (if !f.v || f.ta || !f.tt then misuse s
    else withVl s
      (.next (s.setElems f.rt s.vlen (s.laneValue (some (f.m3, f.z)) (fun x => boolWord ((s.reg f.ra).getLsbD x)))).advance))

/-- VCMPRSS: the active elements packed, R582. -/
def execVcmprss (f : R1F) (s : State) : Out :=
  withMods .plain s
    (if !f.v || !f.tt then misuse s
    else withVl s
      (.next (s.setElems f.rt s.vlen (packedValue (some (f.m3, f.z))
        ((s.actives (some (f.m3, f.z))).map (s.srcA f.ta f.ra)))).advance))

/-- VCIDX: Ra times the numbers of the active elements, packed, R583. -/
def execVcidx (f : R1F) (s : State) : Out :=
  withMods .plain s
    (if !f.v || f.ta || !f.tt then misuse s
    else withVl s
      (.next (s.setElems f.rt s.vlen (packedValue (some (f.m3, f.z))
        ((s.actives (some (f.m3, f.z))).map (fun x => s.reg f.ra * BitVec.ofNat 64 x)))).advance))

/-- VSCAN: the exclusive cumulative sum of Ra over the active elements; z is not used, R584. -/
def execVscan (f : R1F) (s : State) : Out :=
  withMods .plain s
    (if !f.v || f.ta || !f.tt then misuse s
    else withVl s
      (.next (s.setElems f.rt s.vlen (fun x => some
        (((List.range x).filter (fun y => s.active (some (f.m3, f.z)) y)).foldl (fun sum _ => sum + s.reg f.ra) 0#64))).advance))

/-- VEINS: Rb into element Ra of a vector register; not masked, independent of VL, R587. -/
def execVeins (f : R2F) (s : State) : Out :=
  withMods .plain s
    (if !f.v || f.ta || !f.tt || isVec f.tb then misuse s
    else withVl s
      (if s.cfg.vlmax ≤ (s.reg f.ra).toNat then .refused .elementIndex
      else .next (s.setElem f.rt (s.reg f.ra).toNat (s.srcSpec .signed f.tb f.rb 0)).advance))

/-- VEX: element Ra of a vector register into a scalar register, R588, under the modifier's mask, R185, R551: x[Rt] is what an
element would become. DESIGN CHOICE, log 41: the bit that decides is the mask's bit for the element read. -/
def execVex (f : R2F) (s : State) : Out :=
  withMods .plain s
    (if !f.v || f.ta || f.tt || !isVec f.tb then misuse s
    else withVl s
      (if s.cfg.vlmax ≤ (s.reg f.ra).toNat then .refused .elementIndex
      else match s.laneValue s.mods.maskSel (s.elem f.rb) (s.reg f.ra).toNat with
        | some w => .next (s.setReg f.rt w).advance
        | none => .next s.advance))

/-- VSLLV: the elements moved up, zeros below; not masked, R600. -/
def execVsllv (f : R2F) (s : State) : Out :=
  withMods .plain s
    (if !f.v || !f.tt || isVec f.tb then misuse s
    else withVl s
      (let amt := (s.srcSpec .unsigned f.tb f.rb 0).toNat
      .next (s.setElems f.rt s.vlen (fun x => some (if amt ≤ x then s.srcA f.ta f.ra (x - amt) else 0#64))).advance))

/-- VSRLV: the elements moved down, zeros above, R601, under the modifier's mask, R185, R551. -/
def execVsrlv (f : R2F) (s : State) : Out :=
  withMods .plain s
    (if !f.v || !f.tt || isVec f.tb then misuse s
    else withVl s
      (let amt := (s.srcSpec .unsigned f.tb f.rb 0).toNat
      .next (s.setElems f.rt s.vlen (s.laneValue s.mods.maskSel
        (fun x => if x + amt < s.vlen then s.srcA f.ta f.ra (x + amt) else 0#64))).advance))

/-- LDS: strided vector load, R591. -/
def execLds (func4 : BitVec 4) (f : LdF) (s : State) : Out := vectorLoadOp false false func4 f s

/-- LDxVX: indexed vector load, R592. -/
def execLdVX (func4 : BitVec 4) (f : LdF) (s : State) : Out := vectorLoadOp true false func4 f s

/-- CVLDS: compressed strided vector load, R593. -/
def execCvlds (func4 : BitVec 4) (f : LdF) (s : State) : Out := vectorLoadOp false true func4 f s

/-- CVLDxVX: compressed indexed vector load, R594. -/
def execCvldVX (func4 : BitVec 4) (f : LdF) (s : State) : Out := vectorLoadOp true true func4 f s

/-- STS: strided vector store, R595. -/
def execSts (func4 : BitVec 4) (f : StF) (s : State) : Out := vectorStoreOp false false func4 f s

/-- STxVX: indexed vector store, R596. -/
def execStVX (func4 : BitVec 4) (f : StF) (s : State) : Out := vectorStoreOp true false func4 f s

/-- CVSTS: compressed strided vector store, R597. -/
def execCvsts (func4 : BitVec 4) (f : StF) (s : State) : Out := vectorStoreOp false true func4 f s

/-- CVSTxVX: compressed indexed vector store, R598. -/
def execCvstVX (func4 : BitVec 4) (f : StF) (s : State) : Out := vectorStoreOp true true func4 f s

end Sys2Proof.Machine
end

