-- ==== Sys2Proof/Machine/Dispatch.lean ====
section
/-! DEFINITION. One arm per constructor of `Instr`: the meaning of each instruction word. -/

namespace Sys2Proof.Machine

def exec (i : Instr) (s : State) : Host.Outcome State Fault Refusal :=
  match i with
  | .brk cause => Sys2Proof.Machine.execBrk cause s
  | .cntlz f => Sys2Proof.Machine.execCntlz f s
  | .cntlo f => Sys2Proof.Machine.execCntlo f s
  | .cntpop f => Sys2Proof.Machine.execCntpop f s
  | .com f => Sys2Proof.Machine.execCom f s
  | .notL f => Sys2Proof.Machine.execNotL f s
  | .neg f => Sys2Proof.Machine.execNeg f s
  | .abs f => Sys2Proof.Machine.execAbs f s
  | .nabs f => Sys2Proof.Machine.execNabs f s
  | .sqrt f => Sys2Proof.Machine.execSqrt f s
  | .zxb f => Sys2Proof.Machine.execZxb f s
  | .zxw f => Sys2Proof.Machine.execZxw f s
  | .zxt f => Sys2Proof.Machine.execZxt f s
  | .sxb f => Sys2Proof.Machine.execSxb f s
  | .sxw f => Sys2Proof.Machine.execSxw f s
  | .sxt f => Sys2Proof.Machine.execSxt f s
  | .v2bits f => Sys2Proof.Machine.execV2bits f s
  | .vbits2v f => Sys2Proof.Machine.execVbits2v f s
  | .vcmprss f => Sys2Proof.Machine.execVcmprss f s
  | .vcidx f => Sys2Proof.Machine.execVcidx f s
  | .vscan f => Sys2Proof.Machine.execVscan f s
  | .andR f => Sys2Proof.Machine.execAndR f s
  | .orR f => Sys2Proof.Machine.execOrR f s
  | .xorR f => Sys2Proof.Machine.execXorR f s
  | .addR f => Sys2Proof.Machine.execAddR f s
  | .sub f => Sys2Proof.Machine.execSub f s
  | .mulR f => Sys2Proof.Machine.execMulR f s
  | .nand f => Sys2Proof.Machine.execNand f s
  | .nor f => Sys2Proof.Machine.execNor f s
  | .xnor f => Sys2Proof.Machine.execXnor f s
  | .mulfR0D f => Sys2Proof.Machine.execMulfR0D f s
  | .muluR f => Sys2Proof.Machine.execMuluR f s
  | .divR f => Sys2Proof.Machine.execDivR f s
  | .divuR f => Sys2Proof.Machine.execDivuR f s
  | .remR f => Sys2Proof.Machine.execRemR f s
  | .remuR f => Sys2Proof.Machine.execRemuR f s
  | .permR f => Sys2Proof.Machine.execPermR f s
  | .dif f => Sys2Proof.Machine.execDif f s
  | .sll f => Sys2Proof.Machine.execSll f s
  | .slli f => Sys2Proof.Machine.execSlli f s
  | .wydndxR f => Sys2Proof.Machine.execWydndxR f s
  | .mulfR f => Sys2Proof.Machine.execMulfR f s
  | .cmp f => Sys2Proof.Machine.execCmp f s
  | .srl f => Sys2Proof.Machine.execSrl f s
  | .srli f => Sys2Proof.Machine.execSrli f s
  | .u21ndxR f => Sys2Proof.Machine.execU21ndxR f s
  | .seqR f => Sys2Proof.Machine.execSeqR f s
  | .sneR f => Sys2Proof.Machine.execSneR f s
  | .min f => Sys2Proof.Machine.execMin f s
  | .max f => Sys2Proof.Machine.execMax f s
  | .sltR f => Sys2Proof.Machine.execSltR f s
  | .sge f => Sys2Proof.Machine.execSge f s
  | .sltuR f => Sys2Proof.Machine.execSltuR f s
  | .sgeu f => Sys2Proof.Machine.execSgeu f s
  | .bmm f => Sys2Proof.Machine.execBmm f s
  | .mxorB f => Sys2Proof.Machine.execMxorB f s
  | .setm f => Sys2Proof.Machine.execSetm f s
  | .vsllv f => Sys2Proof.Machine.execVsllv f s
  | .vsrlv f => Sys2Proof.Machine.execVsrlv f s
  | .vex f => Sys2Proof.Machine.execVex f s
  | .veins f => Sys2Proof.Machine.execVeins f s
  | .rdCoeff f => Sys2Proof.Machine.execRdCoeff f s
  | .wrCoeff f => Sys2Proof.Machine.execWrCoeff f s
  | .mux f => Sys2Proof.Machine.execMux f s
  | .sllp f => Sys2Proof.Machine.execSllp f s
  | .sllpi f => Sys2Proof.Machine.execSllpi f s
  | .ptrdif f => Sys2Proof.Machine.execPtrdif f s
  | .chkR f => Sys2Proof.Machine.execChkR f s
  | .blend f => Sys2Proof.Machine.execBlend f s
  | .addI f => Sys2Proof.Machine.execAddI f s
  | .subf f => Sys2Proof.Machine.execSubf f s
  | .mulI f => Sys2Proof.Machine.execMulI f s
  | .andI f => Sys2Proof.Machine.execAndI f s
  | .orI f => Sys2Proof.Machine.execOrI f s
  | .xorI f => Sys2Proof.Machine.execXorI f s
  | .muluI f => Sys2Proof.Machine.execMuluI f s
  | .divI f => Sys2Proof.Machine.execDivI f s
  | .divuI f => Sys2Proof.Machine.execDivuI f s
  | .mulfI f => Sys2Proof.Machine.execMulfI f s
  | .permI f => Sys2Proof.Machine.execPermI f s
  | .remI f => Sys2Proof.Machine.execRemI f s
  | .remuI f => Sys2Proof.Machine.execRemuI f s
  | .wydndxI f => Sys2Proof.Machine.execWydndxI f s
  | .divr f => Sys2Proof.Machine.execDivr f s
  | .u21ndxI f => Sys2Proof.Machine.execU21ndxI f s
  | .seqI f => Sys2Proof.Machine.execSeqI f s
  | .sneI f => Sys2Proof.Machine.execSneI f s
  | .sltI f => Sys2Proof.Machine.execSltI f s
  | .sgtI f => Sys2Proof.Machine.execSgtI f s
  | .sltuI f => Sys2Proof.Machine.execSltuI f s
  | .sgtuI f => Sys2Proof.Machine.execSgtuI f s
  | .chkI f => Sys2Proof.Machine.execChkI f s
  | .csrx op2 f => Sys2Proof.Machine.execCsrx op2 f s
  | .csrr f => Sys2Proof.Machine.execCsrr f s
  | .csrw f => Sys2Proof.Machine.execCsrw f s
  | .csrs f => Sys2Proof.Machine.execCsrs f s
  | .csrc f => Sys2Proof.Machine.execCsrc f s
  | .bytndxR f => Sys2Proof.Machine.execBytndxR f s
  | .bytndxI f => Sys2Proof.Machine.execBytndxI f s
  | .dep f => Sys2Proof.Machine.execDep f s
  | .ext f => Sys2Proof.Machine.execExt f s
  | .extu f => Sys2Proof.Machine.execExtu f s
  | .ffo f => Sys2Proof.Machine.execFfo f s
  | .dfabs f => Sys2Proof.Machine.execDfabs f s
  | .fmov f => Sys2Proof.Machine.execFmov f s
  | .fsqrt f => Sys2Proof.Machine.execFsqrt f s
  | .fabs f => Sys2Proof.Machine.execFabs f s
  | .fnabs f => Sys2Proof.Machine.execFnabs f s
  | .fneg f => Sys2Proof.Machine.execFneg f s
  | .fmin f => Sys2Proof.Machine.execFmin f s
  | .fmax f => Sys2Proof.Machine.execFmax f s
  | .fadd f => Sys2Proof.Machine.execFadd f s
  | .fsub f => Sys2Proof.Machine.execFsub f s
  | .fmul f => Sys2Proof.Machine.execFmul f s
  | .fdiv f => Sys2Proof.Machine.execFdiv f s
  | .fcmp f => Sys2Proof.Machine.execFcmp f s
  | .fseq f => Sys2Proof.Machine.execFseq f s
  | .fslt f => Sys2Proof.Machine.execFslt f s
  | .fsle f => Sys2Proof.Machine.execFsle f s
  | .fsne f => Sys2Proof.Machine.execFsne f s
  | .fcmpb f => Sys2Proof.Machine.execFcmpb f s
  | .fsetm f => Sys2Proof.Machine.execFsetm f s
  | .fdp f => Sys2Proof.Machine.execFdp f s
  | .mand f => Sys2Proof.Machine.execMand f s
  | .morM f => Sys2Proof.Machine.execMorM f s
  | .mxorM f => Sys2Proof.Machine.execMxorM f s
  | .madd f => Sys2Proof.Machine.execMadd f s
  | .msub f => Sys2Proof.Machine.execMsub f s
  | .msll f => Sys2Proof.Machine.execMsll f s
  | .msrl f => Sys2Proof.Machine.execMsrl f s
  | .mnand f => Sys2Proof.Machine.execMnand f s
  | .mnor f => Sys2Proof.Machine.execMnor f s
  | .mxnor f => Sys2Proof.Machine.execMxnor f s
  | .mfill f => Sys2Proof.Machine.execMfill f s
  | .mpop f => Sys2Proof.Machine.execMpop f s
  | .mfirst f => Sys2Proof.Machine.execMfirst f s
  | .mlast f => Sys2Proof.Machine.execMlast f s
  | .mtm f => Sys2Proof.Machine.execMtm f s
  | .mfm f => Sys2Proof.Machine.execMfm f s
  | .mtvl f => Sys2Proof.Machine.execMtvl f s
  | .mfvl f => Sys2Proof.Machine.execMfvl f s
  | .cntlzM f => Sys2Proof.Machine.execCntlzM f s
  | .nop v => Sys2Proof.Machine.execNop v s
  | .blt f => Sys2Proof.Machine.execBlt f s
  | .bge f => Sys2Proof.Machine.execBge f s
  | .bltu f => Sys2Proof.Machine.execBltu f s
  | .bgeu f => Sys2Proof.Machine.execBgeu f s
  | .bbs f => Sys2Proof.Machine.execBbs f s
  | .beq f => Sys2Proof.Machine.execBeq f s
  | .bne f => Sys2Proof.Machine.execBne f s
  | .vectorBranch sel => Sys2Proof.Machine.execVectorBranch sel s
  | .exi0 payload => Sys2Proof.Machine.execExi0 payload s
  | .exi1 payload => Sys2Proof.Machine.execExi1 payload s
  | .exi2 payload => Sys2Proof.Machine.execExi2 payload s
  | .imod f => Sys2Proof.Machine.execImod f s
  | .btfld f => Sys2Proof.Machine.execBtfld f s
  | .brmod f => Sys2Proof.Machine.execBrmod f s
  | .stride f => Sys2Proof.Machine.execStride f s
  | .ldx func4 f => Sys2Proof.Machine.execLdx func4 f s
  | .ldxZ func4 f => Sys2Proof.Machine.execLdxZ func4 f s
  | .ldxX func4 f => Sys2Proof.Machine.execLdxX func4 f s
  | .ldxXZ func4 f => Sys2Proof.Machine.execLdxXZ func4 f s
  | .ldb f => Sys2Proof.Machine.execLdb f s
  | .ldbx f => Sys2Proof.Machine.execLdbx f s
  | .ldbz f => Sys2Proof.Machine.execLdbz f s
  | .ldbxz f => Sys2Proof.Machine.execLdbxz f s
  | .ldw f => Sys2Proof.Machine.execLdw f s
  | .ldwx f => Sys2Proof.Machine.execLdwx f s
  | .ldwz f => Sys2Proof.Machine.execLdwz f s
  | .ldwxz f => Sys2Proof.Machine.execLdwxz f s
  | .ldt f => Sys2Proof.Machine.execLdt f s
  | .ldtx f => Sys2Proof.Machine.execLdtx f s
  | .ldtz f => Sys2Proof.Machine.execLdtz f s
  | .ldtxz f => Sys2Proof.Machine.execLdtxz f s
  | .ldo f => Sys2Proof.Machine.execLdo f s
  | .ldox f => Sys2Proof.Machine.execLdox f s
  | .ldoz f => Sys2Proof.Machine.execLdoz f s
  | .ldoxz f => Sys2Proof.Machine.execLdoxz f s
  | .cache f => Sys2Proof.Machine.execCache f s
  | .lea f => Sys2Proof.Machine.execLea f s
  | .leaV f => Sys2Proof.Machine.execLeaV f s
  | .stx func4 f => Sys2Proof.Machine.execStx func4 f s
  | .stxX func4 f => Sys2Proof.Machine.execStxX func4 f s
  | .stb f => Sys2Proof.Machine.execStb f s
  | .stbx f => Sys2Proof.Machine.execStbx f s
  | .stw f => Sys2Proof.Machine.execStw f s
  | .stwx f => Sys2Proof.Machine.execStwx f s
  | .stt f => Sys2Proof.Machine.execStt f s
  | .sttx f => Sys2Proof.Machine.execSttx f s
  | .sto f => Sys2Proof.Machine.execSto f s
  | .stox f => Sys2Proof.Machine.execStox f s
  | .stptr f => Sys2Proof.Machine.execStptr f s
  | .stptrx f => Sys2Proof.Machine.execStptrx f s
  | .stbz f => Sys2Proof.Machine.execStbz f s
  | .stwz f => Sys2Proof.Machine.execStwz f s
  | .sttz f => Sys2Proof.Machine.execSttz f s
  | .stoz f => Sys2Proof.Machine.execStoz f s
  | .jal c26 rt2 => Sys2Proof.Machine.execJal c26 rt2 s
  | .jmp c26 => Sys2Proof.Machine.execJmp c26 s
  | .bal c26 rt2 => Sys2Proof.Machine.execBal c26 rt2 s
  | .bra c26 => Sys2Proof.Machine.execBra c26 s
  | .bsr c26 => Sys2Proof.Machine.execBsr c26 s
  | .jalr f => Sys2Proof.Machine.execJalr f s
  | .push f => Sys2Proof.Machine.execPush f s
  | .pop f => Sys2Proof.Machine.execPop f s
  | .peek f => Sys2Proof.Machine.execPeek f s
  | .stat f => Sys2Proof.Machine.execStat f s
  | .pushi f => Sys2Proof.Machine.execPushi f s
  | .popi f => Sys2Proof.Machine.execPopi f s
  | .peeki f => Sys2Proof.Machine.execPeeki f s
  | .stati f => Sys2Proof.Machine.execStati f s
  | .rex f => Sys2Proof.Machine.execRex f s
  | .rte f => Sys2Proof.Machine.execRte f s
  | .tlbrw f => Sys2Proof.Machine.execTlbrw f s
  | .sysOther func7 f => Sys2Proof.Machine.execSysOther func7 f s
  | .lds func4 f => Sys2Proof.Machine.execLds func4 f s
  | .ldVX func4 f => Sys2Proof.Machine.execLdVX func4 f s
  | .cvlds func4 f => Sys2Proof.Machine.execCvlds func4 f s
  | .cvldVX func4 f => Sys2Proof.Machine.execCvldVX func4 f s
  | .sts func4 f => Sys2Proof.Machine.execSts func4 f s
  | .stVX func4 f => Sys2Proof.Machine.execStVX func4 f s
  | .cvsts func4 f => Sys2Proof.Machine.execCvsts func4 f s
  | .cvstVX func4 f => Sys2Proof.Machine.execCvstVX func4 f s
  | .eorR f => Sys2Proof.Machine.execEorR f s
  | .eorI f => Sys2Proof.Machine.execEorI f s
  | .morB f => Sys2Proof.Machine.execMorB f s
  | .negSubf f => Sys2Proof.Machine.execNegSubf f s
  | .sra f => Sys2Proof.Machine.execSra f s
  | .srlp f => Sys2Proof.Machine.execSrlp f s
  | .sgtR f => Sys2Proof.Machine.execSgtR f s
  | .sgtuR f => Sys2Proof.Machine.execSgtuR f s
  | .sle f => Sys2Proof.Machine.execSle f s
  | .sleu f => Sys2Proof.Machine.execSleu f s
  | .sign f => Sys2Proof.Machine.execSign f s
  | .signF f => Sys2Proof.Machine.execSignF f s
  | .fsgt f => Sys2Proof.Machine.execFsgt f s
  | .fsge f => Sys2Proof.Machine.execFsge f s
  | .bgt f => Sys2Proof.Machine.execBgt f s
  | .ble f => Sys2Proof.Machine.execBle f s
  | .bgtu f => Sys2Proof.Machine.execBgtu f s
  | .bleu f => Sys2Proof.Machine.execBleu f s
  | .tst => Sys2Proof.Machine.execTst s
  | .ptrinc => Sys2Proof.Machine.execPtrinc s
  | .transform => Sys2Proof.Machine.execTransform s
  | .mulh => Sys2Proof.Machine.execMulh s
  | .divsuR => Sys2Proof.Machine.execDivsuR s
  | .remsuR => Sys2Proof.Machine.execRemsuR s
  | .mulsuR => Sys2Proof.Machine.execMulsuR s
  | .mulsuh => Sys2Proof.Machine.execMulsuh s
  | .muluh => Sys2Proof.Machine.execMuluh s
  | .rgf => Sys2Proof.Machine.execRgf s
  | .mort => Sys2Proof.Machine.execMort s
  | .mxort => Sys2Proof.Machine.execMxort s
  | .divsuI => Sys2Proof.Machine.execDivsuI s
  | .mulsuI => Sys2Proof.Machine.execMulsuI s
  | .remsuI => Sys2Proof.Machine.execRemsuI s
  | .sand => Sys2Proof.Machine.execSand s
  | .sor => Sys2Proof.Machine.execSor s
  | .setGroup => Sys2Proof.Machine.execSetGroup s
  | .df1 => Sys2Proof.Machine.execDf1 s
  | .df2 => Sys2Proof.Machine.execDf2 s
  | .pst1 => Sys2Proof.Machine.execPst1 s
  | .pst2 => Sys2Proof.Machine.execPst2 s
  | .df3 => Sys2Proof.Machine.execDf3 s
  | .df4 => Sys2Proof.Machine.execDf4 s
  | .pst3 => Sys2Proof.Machine.execPst3 s
  | .pst4 => Sys2Proof.Machine.execPst4 s
  | .frsqrte => Sys2Proof.Machine.execFrsqrte s
  | .ftoi => Sys2Proof.Machine.execFtoi s
  | .itof => Sys2Proof.Machine.execItof s
  | .fsign => Sys2Proof.Machine.execFsign s
  | .fman => Sys2Proof.Machine.execFman s
  | .fs2d => Sys2Proof.Machine.execFs2d s
  | .fs2q => Sys2Proof.Machine.execFs2q s
  | .fd2q => Sys2Proof.Machine.execFd2q s
  | .fstat => Sys2Proof.Machine.execFstat s
  | .isnan => Sys2Proof.Machine.execIsnan s
  | .finite => Sys2Proof.Machine.execFinite s
  | .ftx => Sys2Proof.Machine.execFtx s
  | .fcx => Sys2Proof.Machine.execFcx s
  | .fex => Sys2Proof.Machine.execFex s
  | .fdx => Sys2Proof.Machine.execFdx s
  | .frm => Sys2Proof.Machine.execFrm s
  | .trunc => Sys2Proof.Machine.execTrunc s
  | .fsync => Sys2Proof.Machine.execFsync s
  | .fres => Sys2Proof.Machine.execFres s
  | .fsigmoid => Sys2Proof.Machine.execFsigmoid s
  | .fd2s => Sys2Proof.Machine.execFd2s s
  | .fq2s => Sys2Proof.Machine.execFq2s s
  | .fq2d => Sys2Proof.Machine.execFq2d s
  | .fclass1 => Sys2Proof.Machine.execFclass1 s
  | .unord => Sys2Proof.Machine.execUnord s
  | .scaleb => Sys2Proof.Machine.execScaleb s
  | .frem => Sys2Proof.Machine.execFrem s
  | .fnxt => Sys2Proof.Machine.execFnxt s
  | .fandB => Sys2Proof.Machine.execFandB s
  | .forB => Sys2Proof.Machine.execForB s
  | .cpysgn => Sys2Proof.Machine.execCpysgn s
  | .sgninv => Sys2Proof.Machine.execSgninv s
  | .sgnand => Sys2Proof.Machine.execSgnand s
  | .sgnor => Sys2Proof.Machine.execSgnor s
  | .sgnxor => Sys2Proof.Machine.execSgnxor s
  | .sgnxnor => Sys2Proof.Machine.execSgnxnor s
  | .fclass2 => Sys2Proof.Machine.execFclass2 s
  | .fma => Sys2Proof.Machine.execFma s
  | .fms => Sys2Proof.Machine.execFms s
  | .fnma => Sys2Proof.Machine.execFnma s
  | .fnms => Sys2Proof.Machine.execFnms s
  | .fblt => Sys2Proof.Machine.execFblt s
  | .fbge => Sys2Proof.Machine.execFbge s
  | .dfblt => Sys2Proof.Machine.execDfblt s
  | .dfbge => Sys2Proof.Machine.execDfbge s
  | .fbeq => Sys2Proof.Machine.execFbeq s
  | .fbne => Sys2Proof.Machine.execFbne s
  | .exi3 => Sys2Proof.Machine.execExi3 s
  | .exi4 => Sys2Proof.Machine.execExi4 s
  | .unnamed5B => Sys2Proof.Machine.execUnnamed5B s
  | .vectorHalf => Sys2Proof.Machine.execVectorHalf s
  | .lsm => Sys2Proof.Machine.execLsm s
  | .ret => Sys2Proof.Machine.execRet s
  | .llal => Sys2Proof.Machine.execLlal s
  | .llah => Sys2Proof.Machine.execLlah s
  | .lpal => Sys2Proof.Machine.execLpal s
  | .lpah => Sys2Proof.Machine.execLpah s
  | .pfi => Sys2Proof.Machine.execPfi s
  | .wfi => Sys2Proof.Machine.execWfi s
  | .setkey => Sys2Proof.Machine.execSetkey s
  | .setto => Sys2Proof.Machine.execSetto s
  | .getto => Sys2Proof.Machine.execGetto s
  | .getzl => Sys2Proof.Machine.execGetzl s
  | .mvseg => Sys2Proof.Machine.execMvseg s
  | .sync => Sys2Proof.Machine.execSync s

end Sys2Proof.Machine
end

