-- ==== Sys2Proof/WellFormed.lean ====
section
/-! DEFINITION. Which terms of `Instr` the decoder answers: the canonical term of each instruction word. A term is ill
formed when its word belongs to a more specific row (R170 and the opcode table's "most mask bits wins"), when the row
fixes bit 7 otherwise, or when the row has no word of its own. -/

namespace Sys2Proof

/-- The {OSR2} function codes with an empty cell (R538). -/
def sysCellEmpty (fn : BitVec 7) : Bool :=
  !([0x08#7, 0x09#7, 0x0a#7, 0x0b#7, 0x0c#7, 0x0d#7, 0x0e#7, 0x0f#7, 0x10#7, 0x13#7, 0x1e#7, 0x00#7, 0x01#7, 0x04#7, 0x05#7, 0x11#7, 0x12#7, 0x14#7, 0x18#7, 0x19#7, 0x1a#7, 0x1d#7, 0x1f#7] : List (BitVec 7)).contains fn

/-- The word of RET is not a JALR term (R478). -/
def JalrF.isRet (f : JalrF) : Bool := f == { c14 := 0#14, ta2 := 0#2, ra := 1#5, cnst5 := 0#5, rt2 := 0#2 }

/-- The canonical terms: those that decoding can answer. -/
def Instr.wellFormed : Instr → Bool
  | .brk _ => true
  | .cntlz _ => true
  | .cntlo _ => true
  | .cntpop _ => true
  | .com _ => true
  | .notL _ => true
  | .neg _ => true
  | .abs _ => true
  | .nabs _ => true
  | .sqrt _ => true
  | .zxb _ => true
  | .zxw _ => true
  | .zxt _ => true
  | .sxb _ => true
  | .sxw _ => true
  | .sxt _ => true
  | .v2bits f => f.v
  | .vbits2v f => f.v
  | .vcmprss f => f.v
  | .vcidx f => f.v
  | .vscan f => f.v
  | .andR _ => true
  | .orR _ => true
  | .xorR _ => true
  | .addR _ => true
  | .sub _ => true
  | .mulR _ => true
  | .nand _ => true
  | .nor _ => true
  | .xnor _ => true
  | .mulfR0D _ => true
  | .muluR _ => true
  | .divR _ => true
  | .divuR _ => true
  | .remR _ => true
  | .remuR _ => true
  | .permR _ => true
  | .dif _ => true
  | .sll _ => true
  | .slli _ => true
  | .wydndxR _ => true
  | .mulfR _ => true
  | .cmp _ => true
  | .srl _ => true
  | .srli _ => true
  | .u21ndxR _ => true
  | .seqR _ => true
  | .sneR _ => true
  | .min _ => true
  | .max _ => true
  | .sltR _ => true
  | .sge _ => true
  | .sltuR _ => true
  | .sgeu _ => true
  | .bmm _ => true
  | .mxorB _ => true
  | .setm _ => true
  | .vsllv f => f.v
  | .vsrlv f => f.v
  | .vex f => f.v
  | .veins f => f.v
  | .rdCoeff _ => true
  | .wrCoeff _ => true
  | .mux _ => true
  | .sllp _ => true
  | .sllpi _ => true
  | .ptrdif _ => true
  | .chkR _ => true
  | .blend _ => true
  | .addI _ => true
  | .subf _ => true
  | .mulI _ => true
  | .andI _ => true
  | .orI _ => true
  | .xorI _ => true
  | .muluI _ => true
  | .divI _ => true
  | .divuI _ => true
  | .mulfI _ => true
  | .permI _ => true
  | .remI _ => true
  | .remuI _ => true
  | .wydndxI _ => true
  | .divr _ => true
  | .u21ndxI _ => true
  | .seqI _ => true
  | .sneI _ => true
  | .sltI _ => true
  | .sgtI _ => true
  | .sltuI _ => true
  | .sgtuI _ => true
  | .chkI _ => true
  | .csrx _ _ => false
  | .csrr _ => true
  | .csrw _ => true
  | .csrs _ => true
  | .csrc _ => true
  | .bytndxR _ => true
  | .bytndxI _ => true
  | .dep _ => true
  | .ext _ => true
  | .extu _ => true
  | .ffo _ => true
  | .dfabs _ => true
  | .fmov _ => true
  | .fsqrt _ => true
  | .fabs _ => true
  | .fnabs _ => true
  | .fneg _ => true
  | .fmin _ => true
  | .fmax _ => true
  | .fadd _ => true
  | .fsub _ => true
  | .fmul _ => true
  | .fdiv _ => true
  | .fcmp _ => true
  | .fseq _ => true
  | .fslt _ => true
  | .fsle _ => true
  | .fsne _ => true
  | .fcmpb _ => true
  | .fsetm _ => true
  | .fdp _ => true
  | .mand _ => true
  | .morM _ => true
  | .mxorM _ => true
  | .madd _ => true
  | .msub _ => true
  | .msll _ => true
  | .msrl _ => true
  | .mnand _ => true
  | .mnor _ => true
  | .mxnor _ => true
  | .mfill _ => true
  | .mpop _ => true
  | .mfirst _ => true
  | .mlast _ => true
  | .mtm _ => true
  | .mfm _ => true
  | .mtvl _ => true
  | .mfvl _ => true
  | .cntlzM _ => false
  | .nop _ => true
  | .blt _ => true
  | .bge _ => true
  | .bltu _ => true
  | .bgeu _ => true
  | .bbs _ => true
  | .beq _ => true
  | .bne _ => true
  | .vectorBranch _ => true
  | .exi0 _ => true
  | .exi1 _ => true
  | .exi2 _ => true
  | .imod _ => true
  | .btfld _ => true
  | .brmod _ => true
  | .stride _ => true
  | .ldx n _ => !(n == 0#4 || n == 1#4 || n == 2#4 || n == 3#4 || n == 15#4)
  | .ldxZ n _ => !(n == 0#4 || n == 1#4 || n == 2#4 || n == 3#4)
  | .ldxX n _ => !(n == 0#4 || n == 1#4 || n == 2#4 || n == 3#4)
  | .ldxXZ n _ => !(n == 0#4 || n == 1#4 || n == 2#4 || n == 3#4)
  | .ldb _ => true
  | .ldbx _ => true
  | .ldbz _ => true
  | .ldbxz _ => true
  | .ldw _ => true
  | .ldwx _ => true
  | .ldwz _ => true
  | .ldwxz _ => true
  | .ldt _ => true
  | .ldtx _ => true
  | .ldtz _ => true
  | .ldtxz _ => true
  | .ldo _ => true
  | .ldox _ => true
  | .ldoz _ => true
  | .ldoxz _ => true
  | .cache _ => true
  | .lea _ => false
  | .leaV _ => false
  | .stx n _ => !(n == 0#4 || n == 1#4 || n == 2#4 || n == 3#4 || n == 7#4)
  | .stxX n _ => !(n == 0#4 || n == 1#4 || n == 2#4 || n == 3#4 || n == 7#4)
  | .stb _ => true
  | .stbx _ => true
  | .stw _ => true
  | .stwx _ => true
  | .stt _ => true
  | .sttx _ => true
  | .sto _ => true
  | .stox _ => true
  | .stptr _ => true
  | .stptrx _ => true
  | .stbz _ => false
  | .stwz _ => false
  | .sttz _ => false
  | .stoz _ => false
  | .jal _ r => r != 0#2
  | .jmp _ => true
  | .bal _ r => !(r == 0#2 || r == 1#2)
  | .bra _ => true
  | .bsr _ => true
  | .jalr f => !f.isRet
  | .push _ => true
  | .pop _ => true
  | .peek _ => true
  | .stat _ => true
  | .pushi _ => true
  | .popi _ => true
  | .peeki _ => true
  | .stati _ => true
  | .rex _ => true
  | .rte _ => true
  | .tlbrw _ => true
  | .sysOther fn _ => sysCellEmpty fn
  | .lds _ _ => true
  | .ldVX _ _ => true
  | .cvlds _ _ => true
  | .cvldVX _ _ => true
  | .sts _ _ => true
  | .stVX _ _ => true
  | .cvsts _ _ => true
  | .cvstVX _ _ => true
  | .eorR _ => false
  | .eorI _ => false
  | .morB _ => false
  | .negSubf _ => false
  | .sra _ => false
  | .srlp _ => false
  | .sgtR _ => false
  | .sgtuR _ => false
  | .sle _ => false
  | .sleu _ => false
  | .sign _ => false
  | .signF _ => false
  | .fsgt _ => false
  | .fsge _ => false
  | .bgt _ => false
  | .ble _ => false
  | .bgtu _ => false
  | .bleu _ => false
  | .tst => true
  | .ptrinc => true
  | .transform => true
  | .mulh => true
  | .divsuR => true
  | .remsuR => true
  | .mulsuR => true
  | .mulsuh => true
  | .muluh => true
  | .rgf => true
  | .mort => true
  | .mxort => true
  | .divsuI => true
  | .mulsuI => true
  | .remsuI => true
  | .sand => true
  | .sor => true
  | .setGroup => true
  | .df1 => true
  | .df2 => true
  | .pst1 => true
  | .pst2 => true
  | .df3 => true
  | .df4 => true
  | .pst3 => true
  | .pst4 => true
  | .frsqrte => true
  | .ftoi => true
  | .itof => true
  | .fsign => true
  | .fman => true
  | .fs2d => true
  | .fs2q => true
  | .fd2q => true
  | .fstat => true
  | .isnan => true
  | .finite => true
  | .ftx => true
  | .fcx => true
  | .fex => true
  | .fdx => true
  | .frm => true
  | .trunc => true
  | .fsync => true
  | .fres => true
  | .fsigmoid => true
  | .fd2s => true
  | .fq2s => true
  | .fq2d => true
  | .fclass1 => true
  | .unord => true
  | .scaleb => true
  | .frem => true
  | .fnxt => true
  | .fandB => true
  | .forB => true
  | .cpysgn => true
  | .sgninv => true
  | .sgnand => true
  | .sgnor => true
  | .sgnxor => true
  | .sgnxnor => true
  | .fclass2 => true
  | .fma => true
  | .fms => true
  | .fnma => true
  | .fnms => true
  | .fblt => true
  | .fbge => true
  | .dfblt => true
  | .dfbge => true
  | .fbeq => true
  | .fbne => true
  | .exi3 => true
  | .exi4 => true
  | .unnamed5B => true
  | .vectorHalf => true
  | .lsm => true
  | .ret => true
  | .llal => true
  | .llah => true
  | .lpal => true
  | .lpah => true
  | .pfi => true
  | .wfi => true
  | .setkey => true
  | .setto => true
  | .getto => true
  | .getzl => true
  | .mvseg => true
  | .sync => true

end Sys2Proof
end

