-- ==== Sys2Proof/Decode.lean ====
section
/-! DEFINITION. Decoding and encoding of the 36-bit words (30_encoding.md). `decode` is total: a word of no row is
refused with the name `unimplemented` (R171). Fields are cut out here, once; `encode` writes them back from the same
tables. -/

namespace Sys2Proof

/-- Why a word is not an instruction. -/
inductive DecodeError where
  /-- The word belongs to no row: it raises UnimplementedInstruction (R171). Safe: the spec says so. -/
  | unimplemented
  /-- Fewer than five bytes were given. Safe: nothing is decoded. -/
  | short
  deriving DecidableEq, Repr

/-- Bits `lo + n - 1 : lo` of a word. -/
def fld (w : Code) (lo n : Nat) : BitVec n := w.extractLsb' lo n

/-- Bit `lo` of a word. -/
def bit (w : Code) (lo : Nat) : Bool := w.getLsbD lo

/-- The word that holds the field `x` at bit `lo` and zeros elsewhere. -/
def put {n : Nat} (lo : Nat) (x : BitVec n) : Code := x.setWidth 36 <<< lo

/-- The word that holds the bit `b` at bit `lo` and zeros elsewhere. -/
def putB (lo : Nat) (b : Bool) : Code := put lo (BitVec.ofBool b)

/-- The high part of a two-part field. -/
def high {n : Nat} (k : Nat) (x : BitVec n) (len : Nat) : BitVec len := x.extractLsb' k len

/-! ## Formats -/

/-- R1 format, R128. -/
def R1F.ofWord (w : Code) : R1F where
  m3 := fld w 21 3
  z := bit w 20
  ta := bit w 19
  ra := fld w 14 5
  tt := bit w 13
  rt := fld w 8 5
  v := bit w 7

/-- The word of the format with the given opcode fields. -/
def R1F.toWord (f : R1F) (op fn : BitVec 7) : Code :=
  put 29 fn ||| put 21 f.m3 ||| putB 20 f.z ||| putB 19 f.ta ||| put 14 f.ra ||| putB 13 f.tt |||
    put 8 f.rt ||| putB 7 f.v ||| put 0 op

/-- R2 format, R129. -/
def R2F.ofWord (w : Code) : R2F where
  tb := fld w 25 2
  rb := fld w 20 5
  ta := bit w 19
  ra := fld w 14 5
  tt := bit w 13
  rt := fld w 8 5
  v := bit w 7

/-- The word of the format with the given opcode fields. -/
def R2F.toWord (f : R2F) (op fn : BitVec 7) : Code :=
  put 29 fn ||| put 25 f.tb ||| put 20 f.rb ||| putB 19 f.ta ||| put 14 f.ra ||| putB 13 f.tt |||
    put 8 f.rt ||| putB 7 f.v ||| put 0 op

/-- R2 layout with a count in bits 25:20, R277. -/
def ShiftF.ofWord (w : Code) : ShiftF where
  imm6 := fld w 20 6
  ta := bit w 19
  ra := fld w 14 5
  tt := bit w 13
  rt := fld w 8 5
  v := bit w 7

/-- The word of the format with the given opcode fields. -/
def ShiftF.toWord (f : ShiftF) (op fn : BitVec 7) : Code :=
  put 29 fn ||| put 20 f.imm6 ||| putB 19 f.ta ||| put 14 f.ra ||| putB 13 f.tt ||| put 8 f.rt |||
    putB 7 f.v ||| put 0 op

/-- Set-mask comparison, R585. -/
def SetMaskF.ofWord (w : Code) : SetMaskF where
  tb := fld w 25 2
  rb := fld w 20 5
  ta := bit w 19
  ra := fld w 14 5
  cond := fld w 11 3
  vmt := fld w 8 3

/-- The word of the format with the given opcode fields. -/
def SetMaskF.toWord (f : SetMaskF) (op fn : BitVec 7) : Code :=
  put 29 fn ||| put 25 f.tb ||| put 20 f.rb ||| putB 19 f.ta ||| put 14 f.ra ||| put 11 f.cond |||
    put 8 f.vmt ||| putB 7 true ||| put 0 op

/-- RI format, R127. -/
def RIF.ofWord (w : Code) : RIF where
  imm16 := fld w 20 16
  ta := bit w 19
  ra := fld w 14 5
  tt := bit w 13
  rt := fld w 8 5
  v := bit w 7

/-- The word of the format with the given opcode fields. -/
def RIF.toWord (f : RIF) (op : BitVec 7) : Code :=
  put 20 f.imm16 ||| putB 19 f.ta ||| put 14 f.ra ||| putB 13 f.tt ||| put 8 f.rt ||| putB 7 f.v |||
    put 0 op

/-- CHK register form, R481. -/
def ChkRF.ofWord (w : Code) : ChkRF where
  tb := fld w 25 2
  rb := fld w 20 5
  ta := bit w 19
  ra := fld w 14 5
  cn := fld w 8 2
  v := bit w 7

/-- The word of the format with the given opcode fields. -/
def ChkRF.toWord (f : ChkRF) (op fn : BitVec 7) : Code :=
  put 29 fn ||| put 25 f.tb ||| put 20 f.rb ||| putB 19 f.ta ||| put 14 f.ra ||| put 8 f.cn ||| putB 7 f.v |||
    put 0 op

/-- CHK immediate form, R479. -/
def ChkIF.ofWord (w : Code) : ChkIF where
  imm16 := fld w 20 16
  ta := bit w 19
  ra := fld w 14 5
  cn := fld w 8 2
  v := bit w 7

/-- The word of the format with the given opcode fields. -/
def ChkIF.toWord (f : ChkIF) (op : BitVec 7) : Code :=
  put 20 f.imm16 ||| putB 19 f.ta ||| put 14 f.ra ||| put 8 f.cn ||| putB 7 f.v ||| put 0 op

/-- BYTNDX register form, R151. -/
def BytRF.ofWord (w : Code) : BytRF where
  tb := fld w 27 2
  rb := fld w 22 5
  ta2 := fld w 20 2
  ra := fld w 15 5
  tt2 := fld w 13 2
  rt := fld w 8 5
  v := bit w 7

/-- The word of the format with the given opcode fields. -/
def BytRF.toWord (f : BytRF) (op : BitVec 7) (sel : BitVec 4) : Code :=
  put 32 sel ||| put 27 f.tb ||| put 22 f.rb ||| put 20 f.ta2 ||| put 15 f.ra ||| put 13 f.tt2 |||
    put 8 f.rt ||| putB 7 f.v ||| put 0 op

/-- BYTNDX immediate form, R151. -/
def BytIF.ofWord (w : Code) : BytIF where
  imm10 := fld w 22 10
  ta2 := fld w 20 2
  ra := fld w 15 5
  tt2 := fld w 13 2
  rt := fld w 8 5
  v := bit w 7

/-- The word of the format with the given opcode fields. -/
def BytIF.toWord (f : BytIF) (op : BitVec 7) (sel : BitVec 4) : Code :=
  put 32 sel ||| put 22 f.imm10 ||| put 20 f.ta2 ||| put 15 f.ra ||| put 13 f.tt2 ||| put 8 f.rt |||
    putB 7 f.v ||| put 0 op

/-- CSR format, R147. -/
def CsrF.ofWord (w : Code) : CsrF where
  regno := fld w 22 14
  ta2 := fld w 20 2
  ra := fld w 15 5
  rt := fld w 8 5

/-- The word of the format with the given opcode fields. -/
def CsrF.toWord (f : CsrF) (op : BitVec 7) (op2 : BitVec 2) : Code :=
  put 22 f.regno ||| put 20 f.ta2 ||| put 15 f.ra ||| put 13 op2 ||| put 8 f.rt ||| put 0 op

/-- BR format, R134, with the displacement of R157 assembled. -/
def BrF.ofWord (w : Code) : BrF where
  disp15 := fld w 27 9 ++ fld w 8 6
  tb := fld w 25 2
  rb := fld w 20 5
  ta := bit w 19
  ra := fld w 14 5

/-- The word of the format with the given opcode. -/
def BrF.toWord (f : BrF) (op : BitVec 7) : Code :=
  put 27 (high 6 f.disp15 9) ||| put 25 f.tb ||| put 20 f.rb ||| putB 19 f.ta ||| put 14 f.ra |||
    put 8 (high 0 f.disp15 6) ||| put 0 op

/-- IMOD and BTFLD format, R136: the type code of Rc is bits 27 and 19. -/
def ImodF.ofWord (w : Code) : ImodF where
  rm := fld w 28 3
  tc := fld w 27 1 ++ fld w 19 1
  rc := fld w 14 5
  td := fld w 25 2
  rd := fld w 20 5
  a := fld w 12 2
  m3 := fld w 9 3
  z := bit w 8

/-- The word of the format with the given opcode. -/
def ImodF.toWord (f : ImodF) (op : BitVec 7) : Code :=
  put 28 f.rm ||| put 27 (high 1 f.tc 1) ||| put 25 f.td ||| put 20 f.rd ||| put 19 (high 0 f.tc 1) ||| put 14 f.rc |||
    put 12 f.a ||| put 9 f.m3 ||| putB 8 f.z ||| put 0 op

/-- BRMOD format, R138. -/
def BrmodF.ofWord (w : Code) : BrmodF where
  c15 := fld w 21 15
  tc := fld w 19 2
  rc := fld w 14 5
  tt := bit w 13
  rt := fld w 8 5

/-- The word of the format with the given opcode fields. -/
def BrmodF.toWord (f : BrmodF) (op : BitVec 7) : Code :=
  put 21 f.c15 ||| put 19 f.tc ||| put 14 f.rc ||| putB 13 f.tt ||| put 8 f.rt ||| put 0 op

/-- STRIDE format, R140. -/
def StrideF.ofWord (w : Code) : StrideF where
  c14 := fld w 22 14
  tc := fld w 20 2
  rc := fld w 15 5
  a := fld w 12 2
  m3 := fld w 9 3
  z := bit w 8

/-- The word of the format with the given opcode fields. -/
def StrideF.toWord (f : StrideF) (op : BitVec 7) : Code :=
  put 22 f.c14 ||| put 20 f.tc ||| put 15 f.rc ||| put 12 f.a ||| put 9 f.m3 ||| putB 8 f.z ||| put 0 op

/-- LD format, R141. -/
def LdF.ofWord (w : Code) : LdF where
  disp12 := fld w 20 12
  ta := bit w 19
  ra := fld w 14 5
  tt := bit w 13
  rt := fld w 8 5

/-- The word of the format with the given opcode fields. -/
def LdF.toWord (f : LdF) (op : BitVec 7) (func4 : BitVec 4) (v : Bool) : Code :=
  put 32 func4 ||| put 20 f.disp12 ||| putB 19 f.ta ||| put 14 f.ra ||| putB 13 f.tt ||| put 8 f.rt |||
    putB 7 v ||| put 0 op

/-- LDX format, R142. -/
def LdxF.ofWord (w : Code) : LdxF where
  sc := fld w 27 3
  tb := fld w 25 2
  rb := fld w 20 5
  ta := bit w 19
  ra := fld w 14 5
  tt := bit w 13
  rt := fld w 8 5

/-- The word of the format with the given opcode fields. -/
def LdxF.toWord (f : LdxF) (op : BitVec 7) (func4 : BitVec 4) : Code :=
  put 32 func4 ||| put 27 f.sc ||| put 25 f.tb ||| put 20 f.rb ||| putB 19 f.ta ||| put 14 f.ra |||
    putB 13 f.tt ||| put 8 f.rt ||| put 0 op

/-- CACHE format, R153. -/
def CacheF.ofWord (w : Code) : CacheF where
  disp12 := fld w 20 12
  ta := bit w 19
  ra := fld w 14 5
  dc3 := fld w 11 3
  ic3 := fld w 8 3

/-- The word of the format with the given opcode fields. -/
def CacheF.toWord (f : CacheF) (op : BitVec 7) (func4 : BitVec 4) : Code :=
  put 32 func4 ||| put 20 f.disp12 ||| putB 19 f.ta ||| put 14 f.ra ||| put 11 f.dc3 ||| put 8 f.ic3 |||
    put 0 op

/-- ST format, R143, with the displacement of R158 assembled. -/
def StF.ofWord (w : Code) : StF where
  disp11 := fld w 27 5 ++ fld w 8 6
  tb := fld w 25 2
  rb := fld w 20 5
  ta := bit w 19
  ra := fld w 14 5

/-- The word of the format with the given opcode fields. -/
def StF.toWord (f : StF) (op : BitVec 7) (func4 : BitVec 4) (v : Bool) : Code :=
  put 32 func4 ||| put 27 (high 6 f.disp11 5) ||| put 25 f.tb ||| put 20 f.rb ||| putB 19 f.ta ||| put 14 f.ra |||
    put 8 (high 0 f.disp11 6) ||| putB 7 v ||| put 0 op

/-- STX format, R144. -/
def StxF.ofWord (w : Code) : StxF where
  sc := fld w 27 3
  tb := fld w 25 2
  rb := fld w 20 5
  ta := bit w 19
  ra := fld w 14 5

/-- The word of the format with the given opcode fields. -/
def StxF.toWord (f : StxF) (op : BitVec 7) (func4 : BitVec 4) : Code :=
  put 32 func4 ||| put 27 f.sc ||| put 25 f.tb ||| put 20 f.rb ||| putB 19 f.ta ||| put 14 f.ra |||
    put 0 op

/-- JALR format, R146. -/
def JalrF.ofWord (w : Code) : JalrF where
  c14 := fld w 22 14
  ta2 := fld w 20 2
  ra := fld w 15 5
  cnst5 := fld w 10 5
  rt2 := fld w 8 2

/-- The word of the format with the given opcode fields. -/
def JalrF.toWord (f : JalrF) (op : BitVec 7) : Code :=
  put 22 f.c14 ||| put 20 f.ta2 ||| put 15 f.ra ||| put 10 f.cnst5 ||| put 8 f.rt2 ||| put 0 op

/-- SYS format, R152. -/
def SysF.ofWord (w : Code) : SysF where
  rb6 := fld w 20 6
  ra6 := fld w 14 6
  rt6 := fld w 8 6

/-- The word of the format with the given opcode fields. -/
def SysF.toWord (f : SysF) (op fn : BitVec 7) : Code :=
  put 29 fn ||| put 20 f.rb6 ||| put 14 f.ra6 ||| put 8 f.rt6 ||| put 0 op

/-- VM format, R149. -/
def Vm3F.ofWord (w : Code) : Vm3F where
  vmb := fld w 22 3
  vma := fld w 15 3
  vmt := fld w 8 3

/-- The word of the format with the given opcode fields. -/
def Vm3F.toWord (f : Vm3F) (op fn : BitVec 7) : Code :=
  put 29 fn ||| put 22 f.vmb ||| put 15 f.vma ||| put 8 f.vmt ||| put 0 op

/-- VM format with a count, R149. -/
def VmShiftF.ofWord (w : Code) : VmShiftF where
  imm6 := fld w 22 6
  vma := fld w 15 3
  vmt := fld w 8 3

/-- The word of the format with the given opcode fields. -/
def VmShiftF.toWord (f : VmShiftF) (op fn : BitVec 7) : Code :=
  put 29 fn ||| put 22 f.imm6 ||| put 15 f.vma ||| put 8 f.vmt ||| put 0 op

/-- VM format, mask to scalar, R149. -/
def VmGetF.ofWord (w : Code) : VmGetF where
  vm := fld w 15 3
  tt2 := fld w 13 2
  rt := fld w 8 5

/-- The word of the format with the given opcode fields. -/
def VmGetF.toWord (f : VmGetF) (op fn : BitVec 7) : Code :=
  put 29 fn ||| put 15 f.vm ||| put 13 f.tt2 ||| put 8 f.rt ||| put 0 op

/-- VM format, scalar to mask, R149. -/
def VmPutF.ofWord (w : Code) : VmPutF where
  ta2 := fld w 20 2
  ra := fld w 15 5
  vmt := fld w 8 3

/-- The word of the format with the given opcode fields. -/
def VmPutF.toWord (f : VmPutF) (op fn : BitVec 7) : Code :=
  put 29 fn ||| put 20 f.ta2 ||| put 15 f.ra ||| put 8 f.vmt ||| put 0 op

/-- VM format, scalar to VL, R566. -/
def VlPutF.ofWord (w : Code) : VlPutF where
  ta2 := fld w 20 2
  ra := fld w 15 5

/-- The word of the format with the given opcode fields. -/
def VlPutF.toWord (f : VlPutF) (op fn : BitVec 7) : Code :=
  put 29 fn ||| put 20 f.ta2 ||| put 15 f.ra ||| put 0 op

/-- VM format, VL to scalar, R567. -/
def VlGetF.ofWord (w : Code) : VlGetF where
  tt2 := fld w 13 2
  rt := fld w 8 5

/-- The word of the format with the given opcode fields. -/
def VlGetF.toWord (f : VlGetF) (op fn : BitVec 7) : Code :=
  put 29 fn ||| put 13 f.tt2 ||| put 8 f.rt ||| put 0 op

/-- JAL and BAL word, R145. -/
def jalWord (op : BitVec 7) (c26 : BitVec 26) (rt2 : BitVec 2) : Code := put 10 c26 ||| put 8 rt2 ||| put 0 op

/-- EXI word, R135. -/
def exiWord (op : BitVec 7) (payload : BitVec 28) : Code := put 8 payload ||| put 0 op

/-- The word of a row that has no operands but the vector bit. -/
def plainWord (op : BitVec 7) (v : Bool) : Code := putB 7 v ||| put 0 op

/-! ## The opcode maps -/

/-- A row of the scalar half only: bit 7 must be 0 (R171 (d)). -/
def scalarOnly (w : Code) (i : Instr) : Except DecodeError Instr :=
  if bit w 7 then .error .unimplemented else .ok i

/-- A row of the vector half only: bit 7 must be 1. -/
def vectorOnly (w : Code) (i : Instr) : Except DecodeError Instr :=
  if bit w 7 then .ok i else .error .unimplemented

/-- {R1} map, R161. -/
def decodeR1 (w : Code) : Except DecodeError Instr :=
  match fld w 29 7 with
  | 0x00#7 => .ok (.cntlz (R1F.ofWord w))
  | 0x01#7 => .ok (.cntlo (R1F.ofWord w))
  | 0x02#7 => .ok (.cntpop (R1F.ofWord w))
  | 0x03#7 => .ok (.com (R1F.ofWord w))
  | 0x04#7 => .ok (.notL (R1F.ofWord w))
  | 0x05#7 => .ok (.neg (R1F.ofWord w))
  | 0x06#7 => .ok (.abs (R1F.ofWord w))
  | 0x07#7 => .ok (.nabs (R1F.ofWord w))
  | 0x08#7 => .ok (.sqrt (R1F.ofWord w))
  | 0x0c#7 => .ok (.zxb (R1F.ofWord w))
  | 0x0d#7 => .ok (.zxw (R1F.ofWord w))
  | 0x0e#7 => .ok (.zxt (R1F.ofWord w))
  | 0x14#7 => .ok (.sxb (R1F.ofWord w))
  | 0x15#7 => .ok (.sxw (R1F.ofWord w))
  | 0x16#7 => .ok (.sxt (R1F.ofWord w))
  | 0x18#7 => vectorOnly w (.v2bits (R1F.ofWord w))
  | 0x19#7 => vectorOnly w (.vbits2v (R1F.ofWord w))
  | 0x1c#7 => vectorOnly w (.vcmprss (R1F.ofWord w))
  | 0x1d#7 => vectorOnly w (.vcidx (R1F.ofWord w))
  | 0x1e#7 => vectorOnly w (.vscan (R1F.ofWord w))
  | 0x0b#7 => .ok (.tst)
  | 0x10#7 => .ok (.ptrinc)
  | 0x11#7 => .ok (.transform)
  | _ => .error .unimplemented

/-- {R2} map, R162. -/
def decodeR2 (w : Code) : Except DecodeError Instr :=
  match fld w 29 7 with
  | 0x00#7 => .ok (.andR (R2F.ofWord w))
  | 0x01#7 => .ok (.orR (R2F.ofWord w))
  | 0x02#7 => .ok (.xorR (R2F.ofWord w))
  | 0x04#7 => .ok (.addR (R2F.ofWord w))
  | 0x05#7 => .ok (.sub (R2F.ofWord w))
  | 0x06#7 => .ok (.mulR (R2F.ofWord w))
  | 0x08#7 => .ok (.nand (R2F.ofWord w))
  | 0x09#7 => .ok (.nor (R2F.ofWord w))
  | 0x0a#7 => .ok (.xnor (R2F.ofWord w))
  | 0x0d#7 => .ok (.mulfR0D (R2F.ofWord w))
  | 0x0e#7 => .ok (.muluR (R2F.ofWord w))
  | 0x10#7 => .ok (.divR (R2F.ofWord w))
  | 0x11#7 => .ok (.divuR (R2F.ofWord w))
  | 0x13#7 => .ok (.remR (R2F.ofWord w))
  | 0x14#7 => .ok (.remuR (R2F.ofWord w))
  | 0x17#7 => .ok (.permR (R2F.ofWord w))
  | 0x18#7 => .ok (.dif (R2F.ofWord w))
  | 0x19#7 => .ok (.sll (R2F.ofWord w))
  | 0x1a#7 => .ok (.slli (ShiftF.ofWord w))
  | 0x1b#7 => .ok (.wydndxR (R2F.ofWord w))
  | 0x1c#7 => .ok (.mulfR (R2F.ofWord w))
  | 0x20#7 => .ok (.cmp (R2F.ofWord w))
  | 0x21#7 => .ok (.srl (R2F.ofWord w))
  | 0x22#7 => .ok (.srli (ShiftF.ofWord w))
  | 0x23#7 => .ok (.u21ndxR (R2F.ofWord w))
  | 0x26#7 => .ok (.seqR (R2F.ofWord w))
  | 0x27#7 => .ok (.sneR (R2F.ofWord w))
  | 0x28#7 => .ok (.min (R2F.ofWord w))
  | 0x29#7 => .ok (.max (R2F.ofWord w))
  | 0x2c#7 => .ok (.sltR (R2F.ofWord w))
  | 0x2d#7 => .ok (.sge (R2F.ofWord w))
  | 0x2e#7 => .ok (.sltuR (R2F.ofWord w))
  | 0x2f#7 => .ok (.sgeu (R2F.ofWord w))
  | 0x30#7 => .ok (.bmm (R2F.ofWord w))
  | 0x31#7 => .ok (.mxorB (R2F.ofWord w))
  | 0x36#7 => vectorOnly w (.setm (SetMaskF.ofWord w))
  | 0x38#7 => vectorOnly w (.vsllv (R2F.ofWord w))
  | 0x39#7 => vectorOnly w (.vsrlv (R2F.ofWord w))
  | 0x3a#7 => vectorOnly w (.vex (R2F.ofWord w))
  | 0x3b#7 => vectorOnly w (.veins (R2F.ofWord w))
  | 0x3e#7 => .ok (.rdCoeff (R2F.ofWord w))
  | 0x3f#7 => .ok (.wrCoeff (R2F.ofWord w))
  | 0x0f#7 => .ok (.mulh)
  | 0x12#7 => .ok (.divsuR)
  | 0x15#7 => .ok (.remsuR)
  | 0x16#7 => .ok (.mulsuR)
  | 0x1d#7 => .ok (.mulsuh)
  | 0x1e#7 => .ok (.muluh)
  | 0x1f#7 => .ok (.rgf)
  | 0x32#7 => .ok (.mort)
  | 0x33#7 => .ok (.mxort)
  | _ => .error .unimplemented

/-- {R3} map, R163. -/
def decodeR3 (w : Code) : Except DecodeError Instr :=
  match fld w 29 7 with
  | 0x04#7 => .ok (.mux (R2F.ofWord w))
  | 0x10#7 => .ok (.sllp (R2F.ofWord w))
  | 0x11#7 => .ok (.sllpi (ShiftF.ofWord w))
  | 0x18#7 => .ok (.ptrdif (R2F.ofWord w))
  | 0x22#7 => .ok (.chkR (ChkRF.ofWord w))
  | 0x30#7 => .ok (.blend (R2F.ofWord w))
  | _ => .error .unimplemented

/-- {BTFLD} group, R219. -/
def decodeBitField (w : Code) : Except DecodeError Instr :=
  match fld w 29 7 with
  | 0x03#7 => .ok (.dep (R2F.ofWord w))
  | 0x04#7 => .ok (.ext (R2F.ofWord w))
  | 0x05#7 => .ok (.extu (R2F.ofWord w))
  | 0x06#7 => .ok (.ffo (R2F.ofWord w))
  | _ => .error .unimplemented

/-- {F1} map, R164. -/
def decodeF1 (w : Code) : Except DecodeError Instr :=
  match fld w 29 7 with
  | 0x00#7 => .ok (.fmov (R1F.ofWord w))
  | 0x08#7 => .ok (.fsqrt (R1F.ofWord w))
  | 0x20#7 => .ok (.fabs (R1F.ofWord w))
  | 0x21#7 => .ok (.fnabs (R1F.ofWord w))
  | 0x22#7 => .ok (.fneg (R1F.ofWord w))
  | 0x01#7 => .ok (.frsqrte)
  | 0x02#7 => .ok (.ftoi)
  | 0x03#7 => .ok (.itof)
  | 0x06#7 => .ok (.fsign)
  | 0x07#7 => .ok (.fman)
  | 0x09#7 => .ok (.fs2d)
  | 0x0a#7 => .ok (.fs2q)
  | 0x0b#7 => .ok (.fd2q)
  | 0x0c#7 => .ok (.fstat)
  | 0x0e#7 => .ok (.isnan)
  | 0x0f#7 => .ok (.finite)
  | 0x10#7 => .ok (.ftx)
  | 0x11#7 => .ok (.fcx)
  | 0x12#7 => .ok (.fex)
  | 0x13#7 => .ok (.fdx)
  | 0x14#7 => .ok (.frm)
  | 0x15#7 => .ok (.trunc)
  | 0x16#7 => .ok (.fsync)
  | 0x17#7 => .ok (.fres)
  | 0x18#7 => .ok (.fsigmoid)
  | 0x19#7 => .ok (.fd2s)
  | 0x1a#7 => .ok (.fq2s)
  | 0x1b#7 => .ok (.fq2d)
  | 0x1e#7 => .ok (.fclass1)
  | 0x1f#7 => .ok (.unord)
  | _ => .error .unimplemented

/-- {F2} map, R165. -/
def decodeF2 (w : Code) : Except DecodeError Instr :=
  match fld w 29 7 with
  | 0x02#7 => .ok (.fmin (R2F.ofWord w))
  | 0x03#7 => .ok (.fmax (R2F.ofWord w))
  | 0x04#7 => .ok (.fadd (R2F.ofWord w))
  | 0x05#7 => .ok (.fsub (R2F.ofWord w))
  | 0x08#7 => .ok (.fmul (R2F.ofWord w))
  | 0x09#7 => .ok (.fdiv (R2F.ofWord w))
  | 0x10#7 => .ok (.fcmp (R2F.ofWord w))
  | 0x11#7 => .ok (.fseq (R2F.ofWord w))
  | 0x12#7 => .ok (.fslt (R2F.ofWord w))
  | 0x13#7 => .ok (.fsle (R2F.ofWord w))
  | 0x14#7 => .ok (.fsne (R2F.ofWord w))
  | 0x15#7 => .ok (.fcmpb (R2F.ofWord w))
  | 0x16#7 => vectorOnly w (.fsetm (SetMaskF.ofWord w))
  | 0x00#7 => .ok (.scaleb)
  | 0x0a#7 => .ok (.frem)
  | 0x0b#7 => .ok (.fnxt)
  | 0x0c#7 => .ok (.fandB)
  | 0x0d#7 => .ok (.forB)
  | 0x18#7 => .ok (.cpysgn)
  | 0x19#7 => .ok (.sgninv)
  | 0x1a#7 => .ok (.sgnand)
  | 0x1b#7 => .ok (.sgnor)
  | 0x1c#7 => .ok (.sgnxor)
  | 0x1d#7 => .ok (.sgnxnor)
  | 0x1e#7 => .ok (.fclass2)
  | _ => .error .unimplemented

/-- {F3} map, R166. -/
def decodeF3 (w : Code) : Except DecodeError Instr :=
  match fld w 29 7 with
  | 0x00#7 => .ok (.fma)
  | 0x01#7 => .ok (.fms)
  | 0x02#7 => .ok (.fnma)
  | 0x03#7 => .ok (.fnms)
  | _ => .error .unimplemented

/-- {F4} group, R344: function 0 is FDP. -/
def decodeF4 (w : Code) : Except DecodeError Instr :=
  match fld w 29 7 with
  | 0x00#7 => .ok (.fdp (R2F.ofWord w))
  | _ => .error .unimplemented

/-- {DF1} group, R166, R362: function 20h is the decimal-float FABS; every other word of the group is named only. -/
def decodeDF1 (w : Code) : Except DecodeError Instr :=
  match fld w 29 7 with
  | 0x20#7 => .ok (.dfabs (R1F.ofWord w))
  | _ => .ok .df1

/-- {VM} map, R167. -/
def decodeVM (w : Code) : Except DecodeError Instr :=
  match fld w 29 7 with
  | 0x00#7 => .ok (.mand (Vm3F.ofWord w))
  | 0x01#7 => .ok (.morM (Vm3F.ofWord w))
  | 0x02#7 => .ok (.mxorM (Vm3F.ofWord w))
  | 0x04#7 => .ok (.madd (Vm3F.ofWord w))
  | 0x05#7 => .ok (.msub (Vm3F.ofWord w))
  | 0x06#7 => .ok (.msll (VmShiftF.ofWord w))
  | 0x07#7 => .ok (.msrl (VmShiftF.ofWord w))
  | 0x08#7 => .ok (.mnand (Vm3F.ofWord w))
  | 0x09#7 => .ok (.mnor (Vm3F.ofWord w))
  | 0x0a#7 => .ok (.mxnor (Vm3F.ofWord w))
  | 0x0c#7 => .ok (.mfill (VmPutF.ofWord w))
  | 0x0d#7 => .ok (.mpop (VmGetF.ofWord w))
  | 0x0e#7 => .ok (.mfirst (VmGetF.ofWord w))
  | 0x0f#7 => .ok (.mlast (VmGetF.ofWord w))
  | 0x10#7 => .ok (.mtm (VmPutF.ofWord w))
  | 0x11#7 => .ok (.mfm (VmGetF.ofWord w))
  | 0x12#7 => .ok (.mtvl (VlPutF.ofWord w))
  | 0x13#7 => .ok (.mfvl (VlGetF.ofWord w))
  | _ => .error .unimplemented

/-- {OSR2} map, R168; an empty cell is the row of R538. -/
def decodeSys (w : Code) : Except DecodeError Instr :=
  match fld w 29 7 with
  | 0x08#7 => .ok (.push (SysF.ofWord w))
  | 0x09#7 => .ok (.pop (SysF.ofWord w))
  | 0x0a#7 => .ok (.peek (SysF.ofWord w))
  | 0x0b#7 => .ok (.stat (SysF.ofWord w))
  | 0x0c#7 => .ok (.pushi (SysF.ofWord w))
  | 0x0d#7 => .ok (.popi (SysF.ofWord w))
  | 0x0e#7 => .ok (.peeki (SysF.ofWord w))
  | 0x0f#7 => .ok (.stati (SysF.ofWord w))
  | 0x10#7 => .ok (.rex (SysF.ofWord w))
  | 0x13#7 => .ok (.rte (SysF.ofWord w))
  | 0x1e#7 => .ok (.tlbrw (SysF.ofWord w))
  | 0x00#7 => .ok .llal
  | 0x01#7 => .ok .llah
  | 0x04#7 => .ok .lpal
  | 0x05#7 => .ok .lpah
  | 0x11#7 => .ok .pfi
  | 0x12#7 => .ok .wfi
  | 0x14#7 => .ok .setkey
  | 0x18#7 => .ok .setto
  | 0x19#7 => .ok .getto
  | 0x1a#7 => .ok .getzl
  | 0x1d#7 => .ok .mvseg
  | 0x1f#7 => .ok .sync
  | fn => .ok (.sysOther fn (SysF.ofWord w))

/-- BYTNDX selector, R151. -/
def decodeBytndx (w : Code) : Except DecodeError Instr :=
  match fld w 32 4 with
  | 0#4 => .ok (.bytndxR (BytRF.ofWord w))
  | 1#4 => .ok (.bytndxI (BytIF.ofWord w))
  | _ => .error .unimplemented

/-- CSRx by its Op2 field, R501. -/
def decodeCsr (w : Code) : Except DecodeError Instr :=
  match fld w 13 2 with
  | 0#2 => .ok (.csrr (CsrF.ofWord w))
  | 1#2 => .ok (.csrw (CsrF.ofWord w))
  | 2#2 => .ok (.csrs (CsrF.ofWord w))
  | _ => .ok (.csrc (CsrF.ofWord w))

/-- LDx by size, R85, R412; size 15 is CACHE (R410). -/
def decodeLoad (w : Code) : Except DecodeError Instr :=
  match fld w 32 4 with
  | 0#4 => .ok (.ldb (LdF.ofWord w))
  | 1#4 => .ok (.ldw (LdF.ofWord w))
  | 2#4 => .ok (.ldt (LdF.ofWord w))
  | 3#4 => .ok (.ldo (LdF.ofWord w))
  | 15#4 => .ok (.cache (CacheF.ofWord w))
  | n => .ok (.ldx n (LdF.ofWord w))

/-- LDxZ by size, R85, R413. -/
def decodeLoadZ (w : Code) : Except DecodeError Instr :=
  match fld w 32 4 with
  | 0#4 => .ok (.ldbz (LdF.ofWord w))
  | 1#4 => .ok (.ldwz (LdF.ofWord w))
  | 2#4 => .ok (.ldtz (LdF.ofWord w))
  | 3#4 => .ok (.ldoz (LdF.ofWord w))
  | n => .ok (.ldxZ n (LdF.ofWord w))

/-- LDxX by size, R85, R414. -/
def decodeLoadX (w : Code) : Except DecodeError Instr :=
  match fld w 32 4 with
  | 0#4 => .ok (.ldbx (LdxF.ofWord w))
  | 1#4 => .ok (.ldwx (LdxF.ofWord w))
  | 2#4 => .ok (.ldtx (LdxF.ofWord w))
  | 3#4 => .ok (.ldox (LdxF.ofWord w))
  | n => .ok (.ldxX n (LdxF.ofWord w))

/-- LDxXZ by size, R85, R415. -/
def decodeLoadXZ (w : Code) : Except DecodeError Instr :=
  match fld w 32 4 with
  | 0#4 => .ok (.ldbxz (LdxF.ofWord w))
  | 1#4 => .ok (.ldwxz (LdxF.ofWord w))
  | 2#4 => .ok (.ldtxz (LdxF.ofWord w))
  | 3#4 => .ok (.ldoxz (LdxF.ofWord w))
  | n => .ok (.ldxXZ n (LdxF.ofWord w))

/-- STx by size, R85, R436. -/
def decodeStore (w : Code) : Except DecodeError Instr :=
  match fld w 32 4 with
  | 0#4 => .ok (.stb (StF.ofWord w))
  | 1#4 => .ok (.stw (StF.ofWord w))
  | 2#4 => .ok (.stt (StF.ofWord w))
  | 3#4 => .ok (.sto (StF.ofWord w))
  | 7#4 => .ok (.stptr (StF.ofWord w))
  | n => .ok (.stx n (StF.ofWord w))

/-- STxX by size, R85, R437. -/
def decodeStoreX (w : Code) : Except DecodeError Instr :=
  match fld w 32 4 with
  | 0#4 => .ok (.stbx (StxF.ofWord w))
  | 1#4 => .ok (.stwx (StxF.ofWord w))
  | 2#4 => .ok (.sttx (StxF.ofWord w))
  | 3#4 => .ok (.stox (StxF.ofWord w))
  | 7#4 => .ok (.stptrx (StxF.ofWord w))
  | n => .ok (.stxX n (StxF.ofWord w))

/-- JAL by its link field, R475. -/
def decodeJal (w : Code) : Except DecodeError Instr :=
  match fld w 8 2 with
  | 0#2 => .ok (.jmp (fld w 10 26))
  | r => .ok (.jal (fld w 10 26) r)

/-- BAL by its link field, R472, R473. -/
def decodeBal (w : Code) : Except DecodeError Instr :=
  match fld w 8 2 with
  | 0#2 => .ok (.bra (fld w 10 26))
  | 1#2 => .ok (.bsr (fld w 10 26))
  | r => .ok (.bal (fld w 10 26) r)

/-- JALR, and RET for its one word, R477, R478. -/
def decodeJalr (w : Code) : Except DecodeError Instr :=
  if (JalrF.ofWord w).isRet then .ok .ret else .ok (.jalr (JalrF.ofWord w))

/-- Root 58h: IMOD; its vector half D8h is refused by name, R189. -/
def halfOr (w : Code) (i : Instr) : Except DecodeError Instr :=
  if bit w 7 then .ok .vectorHalf else .ok i

/-- The vector half of a branch opcode: C8h to CFh is a row of its own, R460. -/
def branchOr (w : Code) (i : Instr) : Except DecodeError Instr :=
  if bit w 7 then .ok (.vectorBranch (fld w 0 3)) else .ok i

/-- A group of the scalar half only: bit 7 must be 0 (R171 (d)). -/
def scalarHalf (w : Code) (r : Except DecodeError Instr) : Except DecodeError Instr :=
  if bit w 7 then .error .unimplemented else r

/-- The Root Opcode Map, R160: total; an empty cell is `unimplemented`. -/
def decode (w : Code) : Except DecodeError Instr :=
  match fld w 0 7 with
  | 0x00#7 => scalarOnly w (.brk (fld w 15 8))
  | 0x01#7 => decodeR1 w
  | 0x02#7 => decodeR2 w
  | 0x03#7 => decodeR3 w
  | 0x04#7 => .ok (.addI (RIF.ofWord w))
  | 0x05#7 => .ok (.subf (RIF.ofWord w))
  | 0x06#7 => .ok (.mulI (RIF.ofWord w))
  | 0x07#7 => scalarHalf w (decodeSys w)
  | 0x08#7 => .ok (.andI (RIF.ofWord w))
  | 0x09#7 => .ok (.orI (RIF.ofWord w))
  | 0x0a#7 => .ok (.xorI (RIF.ofWord w))
  | 0x0d#7 => .ok .setGroup
  | 0x0e#7 => .ok (.muluI (RIF.ofWord w))
  | 0x0f#7 => scalarHalf w (decodeCsr w)
  | 0x10#7 => .ok (.divI (RIF.ofWord w))
  | 0x11#7 => .ok (.divuI (RIF.ofWord w))
  | 0x12#7 => .ok (.divsuI)
  | 0x15#7 => .ok (.mulfI (RIF.ofWord w))
  | 0x16#7 => .ok (.mulsuI)
  | 0x17#7 => .ok (.permI (RIF.ofWord w))
  | 0x18#7 => .ok (.remI (RIF.ofWord w))
  | 0x19#7 => .ok (.remuI (RIF.ofWord w))
  | 0x1a#7 => decodeBytndx w
  | 0x1b#7 => .ok (.wydndxI (RIF.ofWord w))
  | 0x1c#7 => decodeBitField w
  | 0x20#7 => .ok (.remsuI)
  | 0x21#7 => .ok (.divr (RIF.ofWord w))
  | 0x22#7 => .ok (.chkI (ChkIF.ofWord w))
  | 0x23#7 => .ok (.u21ndxI (RIF.ofWord w))
  | 0x24#7 => scalarOnly w (.sand)
  | 0x25#7 => scalarOnly w (.sor)
  | 0x26#7 => .ok (.seqI (RIF.ofWord w))
  | 0x27#7 => .ok (.sneI (RIF.ofWord w))
  | 0x28#7 => .ok (.sltI (RIF.ofWord w))
  | 0x29#7 => .ok (.sgtI (RIF.ofWord w))
  | 0x2a#7 => .ok (.sltuI (RIF.ofWord w))
  | 0x2b#7 => .ok (.sgtuI (RIF.ofWord w))
  | 0x30#7 => decodeDF1 w
  | 0x31#7 => .ok .df2
  | 0x32#7 => .ok .df3
  | 0x33#7 => .ok .df4
  | 0x34#7 => decodeF1 w
  | 0x35#7 => decodeF2 w
  | 0x36#7 => decodeF3 w
  | 0x37#7 => decodeF4 w
  | 0x38#7 => .ok .pst1
  | 0x39#7 => .ok .pst2
  | 0x3a#7 => .ok .pst3
  | 0x3b#7 => .ok .pst4
  | 0x3e#7 => scalarHalf w (decodeVM w)
  | 0x3f#7 => .ok (.nop (bit w 7))
  | 0x40#7 => scalarOnly w .fblt
  | 0x41#7 => scalarOnly w .fbge
  | 0x42#7 => scalarOnly w .dfblt
  | 0x43#7 => scalarOnly w .dfbge
  | 0x46#7 => scalarOnly w .fbeq
  | 0x47#7 => scalarOnly w .fbne
  | 0x48#7 => branchOr w (.blt (BrF.ofWord w))
  | 0x49#7 => branchOr w (.bge (BrF.ofWord w))
  | 0x4a#7 => branchOr w (.bltu (BrF.ofWord w))
  | 0x4b#7 => branchOr w (.bgeu (BrF.ofWord w))
  | 0x4c#7 => vectorOnly w (.vectorBranch (fld w 0 3))
  | 0x4d#7 => branchOr w (.bbs (BrF.ofWord w))
  | 0x4e#7 => branchOr w (.beq (BrF.ofWord w))
  | 0x4f#7 => branchOr w (.bne (BrF.ofWord w))
  | 0x50#7 => scalarOnly w (.exi0 (fld w 8 28))
  | 0x51#7 => scalarOnly w (.exi1 (fld w 8 28))
  | 0x52#7 => scalarOnly w (.exi2 (fld w 8 28))
  | 0x53#7 => scalarOnly w .exi3
  | 0x54#7 => scalarOnly w .exi4
  | 0x58#7 => halfOr w (.imod (ImodF.ofWord w))
  | 0x59#7 => halfOr w (.btfld (ImodF.ofWord w))
  | 0x5a#7 => halfOr w (.brmod (BrmodF.ofWord w))
  | 0x5b#7 => scalarOnly w .unnamed5B
  | 0x5c#7 => halfOr w (.stride (StrideF.ofWord w))
  | 0x60#7 => scalarHalf w (decodeLoad w)
  | 0x61#7 => scalarHalf w (decodeLoadX w)
  | 0x62#7 => vectorOnly w (.lds (fld w 32 4) (LdF.ofWord w))
  | 0x63#7 => vectorOnly w (.ldVX (fld w 32 4) (LdF.ofWord w))
  | 0x64#7 => scalarHalf w (decodeLoadZ w)
  | 0x65#7 => scalarHalf w (decodeLoadXZ w)
  | 0x66#7 => vectorOnly w (.cvlds (fld w 32 4) (LdF.ofWord w))
  | 0x67#7 => vectorOnly w (.cvldVX (fld w 32 4) (LdF.ofWord w))
  | 0x6f#7 => scalarOnly w .lsm
  | 0x70#7 => scalarHalf w (decodeStore w)
  | 0x71#7 => scalarHalf w (decodeStoreX w)
  | 0x72#7 => vectorOnly w (.sts (fld w 32 4) (StF.ofWord w))
  | 0x73#7 => vectorOnly w (.stVX (fld w 32 4) (StF.ofWord w))
  | 0x76#7 => vectorOnly w (.cvsts (fld w 32 4) (StF.ofWord w))
  | 0x77#7 => vectorOnly w (.cvstVX (fld w 32 4) (StF.ofWord w))
  | 0x78#7 => scalarHalf w (decodeJal w)
  | 0x79#7 => scalarHalf w (decodeBal w)
  | 0x7a#7 => scalarHalf w (decodeJalr w)
  | _ => .error .unimplemented

/-- Five bytes in memory order to the word that starts at their low nybble, R82, R83. -/
def decodeBytes : List Byte → Except DecodeError (Instr × List Byte)
  | b0 :: b1 :: b2 :: b3 :: b4 :: rest =>
    match decode ((b4 ++ b3 ++ b2 ++ b1 ++ b0).extractLsb' 0 36) with
    | .ok i => .ok (i, rest)
    | .error e => .error e
  | _ => .error .short

/-- The instruction the decoder reads from a table row's word (the host's question). -/
def decodeTableWord (nbits w : Nat) : Option Instr :=
  match decode (BitVec.ofNat 36 (w % 2 ^ nbits)) with
  | .ok i => some i
  | .error _ => none

/-! ## Encoding -/

/-- The word of an instruction; none where the instruction has no word in this version (R430, R431, R443, R579). An
alias has the word of its core instruction (R170). -/
def encode : Instr → Option Code
  | .brk cause => some (put 15 cause ||| put 0 0x00#7)
  | .cntlz f => some (f.toWord 0x01#7 0x00#7)
  | .cntlo f => some (f.toWord 0x01#7 0x01#7)
  | .cntpop f => some (f.toWord 0x01#7 0x02#7)
  | .com f => some (f.toWord 0x01#7 0x03#7)
  | .notL f => some (f.toWord 0x01#7 0x04#7)
  | .neg f => some (f.toWord 0x01#7 0x05#7)
  | .abs f => some (f.toWord 0x01#7 0x06#7)
  | .nabs f => some (f.toWord 0x01#7 0x07#7)
  | .sqrt f => some (f.toWord 0x01#7 0x08#7)
  | .zxb f => some (f.toWord 0x01#7 0x0c#7)
  | .zxw f => some (f.toWord 0x01#7 0x0d#7)
  | .zxt f => some (f.toWord 0x01#7 0x0e#7)
  | .sxb f => some (f.toWord 0x01#7 0x14#7)
  | .sxw f => some (f.toWord 0x01#7 0x15#7)
  | .sxt f => some (f.toWord 0x01#7 0x16#7)
  | .v2bits f => some (f.toWord 0x01#7 0x18#7)
  | .vbits2v f => some (f.toWord 0x01#7 0x19#7)
  | .vcmprss f => some (f.toWord 0x01#7 0x1c#7)
  | .vcidx f => some (f.toWord 0x01#7 0x1d#7)
  | .vscan f => some (f.toWord 0x01#7 0x1e#7)
  | .andR f => some (f.toWord 0x02#7 0x00#7)
  | .orR f => some (f.toWord 0x02#7 0x01#7)
  | .xorR f => some (f.toWord 0x02#7 0x02#7)
  | .addR f => some (f.toWord 0x02#7 0x04#7)
  | .sub f => some (f.toWord 0x02#7 0x05#7)
  | .mulR f => some (f.toWord 0x02#7 0x06#7)
  | .nand f => some (f.toWord 0x02#7 0x08#7)
  | .nor f => some (f.toWord 0x02#7 0x09#7)
  | .xnor f => some (f.toWord 0x02#7 0x0a#7)
  | .mulfR0D f => some (f.toWord 0x02#7 0x0d#7)
  | .muluR f => some (f.toWord 0x02#7 0x0e#7)
  | .divR f => some (f.toWord 0x02#7 0x10#7)
  | .divuR f => some (f.toWord 0x02#7 0x11#7)
  | .remR f => some (f.toWord 0x02#7 0x13#7)
  | .remuR f => some (f.toWord 0x02#7 0x14#7)
  | .permR f => some (f.toWord 0x02#7 0x17#7)
  | .dif f => some (f.toWord 0x02#7 0x18#7)
  | .sll f => some (f.toWord 0x02#7 0x19#7)
  | .slli f => some (f.toWord 0x02#7 0x1a#7)
  | .wydndxR f => some (f.toWord 0x02#7 0x1b#7)
  | .mulfR f => some (f.toWord 0x02#7 0x1c#7)
  | .cmp f => some (f.toWord 0x02#7 0x20#7)
  | .srl f => some (f.toWord 0x02#7 0x21#7)
  | .srli f => some (f.toWord 0x02#7 0x22#7)
  | .u21ndxR f => some (f.toWord 0x02#7 0x23#7)
  | .seqR f => some (f.toWord 0x02#7 0x26#7)
  | .sneR f => some (f.toWord 0x02#7 0x27#7)
  | .min f => some (f.toWord 0x02#7 0x28#7)
  | .max f => some (f.toWord 0x02#7 0x29#7)
  | .sltR f => some (f.toWord 0x02#7 0x2c#7)
  | .sge f => some (f.toWord 0x02#7 0x2d#7)
  | .sltuR f => some (f.toWord 0x02#7 0x2e#7)
  | .sgeu f => some (f.toWord 0x02#7 0x2f#7)
  | .bmm f => some (f.toWord 0x02#7 0x30#7)
  | .mxorB f => some (f.toWord 0x02#7 0x31#7)
  | .setm f => some (f.toWord 0x02#7 0x36#7)
  | .vsllv f => some (f.toWord 0x02#7 0x38#7)
  | .vsrlv f => some (f.toWord 0x02#7 0x39#7)
  | .vex f => some (f.toWord 0x02#7 0x3a#7)
  | .veins f => some (f.toWord 0x02#7 0x3b#7)
  | .rdCoeff f => some (f.toWord 0x02#7 0x3e#7)
  | .wrCoeff f => some (f.toWord 0x02#7 0x3f#7)
  | .mux f => some (f.toWord 0x03#7 0x04#7)
  | .sllp f => some (f.toWord 0x03#7 0x10#7)
  | .sllpi f => some (f.toWord 0x03#7 0x11#7)
  | .ptrdif f => some (f.toWord 0x03#7 0x18#7)
  | .chkR f => some (f.toWord 0x03#7 0x22#7)
  | .blend f => some (f.toWord 0x03#7 0x30#7)
  | .addI f => some (f.toWord 0x04#7)
  | .subf f => some (f.toWord 0x05#7)
  | .mulI f => some (f.toWord 0x06#7)
  | .andI f => some (f.toWord 0x08#7)
  | .orI f => some (f.toWord 0x09#7)
  | .xorI f => some (f.toWord 0x0a#7)
  | .muluI f => some (f.toWord 0x0e#7)
  | .divI f => some (f.toWord 0x10#7)
  | .divuI f => some (f.toWord 0x11#7)
  | .mulfI f => some (f.toWord 0x15#7)
  | .permI f => some (f.toWord 0x17#7)
  | .remI f => some (f.toWord 0x18#7)
  | .remuI f => some (f.toWord 0x19#7)
  | .wydndxI f => some (f.toWord 0x1b#7)
  | .divr f => some (f.toWord 0x21#7)
  | .u21ndxI f => some (f.toWord 0x23#7)
  | .seqI f => some (f.toWord 0x26#7)
  | .sneI f => some (f.toWord 0x27#7)
  | .sltI f => some (f.toWord 0x28#7)
  | .sgtI f => some (f.toWord 0x29#7)
  | .sltuI f => some (f.toWord 0x2a#7)
  | .sgtuI f => some (f.toWord 0x2b#7)
  | .chkI f => some (f.toWord 0x22#7)
  | .csrx op2 f => some (f.toWord 0x0f#7 op2)
  | .csrr f => some (f.toWord 0x0f#7 0#2)
  | .csrw f => some (f.toWord 0x0f#7 1#2)
  | .csrs f => some (f.toWord 0x0f#7 2#2)
  | .csrc f => some (f.toWord 0x0f#7 3#2)
  | .bytndxR f => some (f.toWord 0x1a#7 0#4)
  | .bytndxI f => some (f.toWord 0x1a#7 1#4)
  | .dep f => some (f.toWord 0x1c#7 0x03#7)
  | .ext f => some (f.toWord 0x1c#7 0x04#7)
  | .extu f => some (f.toWord 0x1c#7 0x05#7)
  | .ffo f => some (f.toWord 0x1c#7 0x06#7)
  | .dfabs f => some (f.toWord 0x30#7 0x20#7)
  | .fmov f => some (f.toWord 0x34#7 0x00#7)
  | .fsqrt f => some (f.toWord 0x34#7 0x08#7)
  | .fabs f => some (f.toWord 0x34#7 0x20#7)
  | .fnabs f => some (f.toWord 0x34#7 0x21#7)
  | .fneg f => some (f.toWord 0x34#7 0x22#7)
  | .fmin f => some (f.toWord 0x35#7 0x02#7)
  | .fmax f => some (f.toWord 0x35#7 0x03#7)
  | .fadd f => some (f.toWord 0x35#7 0x04#7)
  | .fsub f => some (f.toWord 0x35#7 0x05#7)
  | .fmul f => some (f.toWord 0x35#7 0x08#7)
  | .fdiv f => some (f.toWord 0x35#7 0x09#7)
  | .fcmp f => some (f.toWord 0x35#7 0x10#7)
  | .fseq f => some (f.toWord 0x35#7 0x11#7)
  | .fslt f => some (f.toWord 0x35#7 0x12#7)
  | .fsle f => some (f.toWord 0x35#7 0x13#7)
  | .fsne f => some (f.toWord 0x35#7 0x14#7)
  | .fcmpb f => some (f.toWord 0x35#7 0x15#7)
  | .fsetm f => some (f.toWord 0x35#7 0x16#7)
  | .fdp f => some (f.toWord 0x37#7 0x00#7)
  | .mand f => some (f.toWord 0x3e#7 0x00#7)
  | .morM f => some (f.toWord 0x3e#7 0x01#7)
  | .mxorM f => some (f.toWord 0x3e#7 0x02#7)
  | .madd f => some (f.toWord 0x3e#7 0x04#7)
  | .msub f => some (f.toWord 0x3e#7 0x05#7)
  | .msll f => some (f.toWord 0x3e#7 0x06#7)
  | .msrl f => some (f.toWord 0x3e#7 0x07#7)
  | .mnand f => some (f.toWord 0x3e#7 0x08#7)
  | .mnor f => some (f.toWord 0x3e#7 0x09#7)
  | .mxnor f => some (f.toWord 0x3e#7 0x0a#7)
  | .mfill f => some (f.toWord 0x3e#7 0x0c#7)
  | .mpop f => some (f.toWord 0x3e#7 0x0d#7)
  | .mfirst f => some (f.toWord 0x3e#7 0x0e#7)
  | .mlast f => some (f.toWord 0x3e#7 0x0f#7)
  | .mtm f => some (f.toWord 0x3e#7 0x10#7)
  | .mfm f => some (f.toWord 0x3e#7 0x11#7)
  | .mtvl f => some (f.toWord 0x3e#7 0x12#7)
  | .mfvl f => some (f.toWord 0x3e#7 0x13#7)
  | .cntlzM _ => none
  | .nop v => some (plainWord 0x3f#7 v)
  | .blt f => some (f.toWord 0x48#7)
  | .bge f => some (f.toWord 0x49#7)
  | .bltu f => some (f.toWord 0x4a#7)
  | .bgeu f => some (f.toWord 0x4b#7)
  | .bbs f => some (f.toWord 0x4d#7)
  | .beq f => some (f.toWord 0x4e#7)
  | .bne f => some (f.toWord 0x4f#7)
  | .vectorBranch sel => some (put 3 0x19#5 ||| put 0 sel)
  | .exi0 payload => some (exiWord 0x50#7 payload)
  | .exi1 payload => some (exiWord 0x51#7 payload)
  | .exi2 payload => some (exiWord 0x52#7 payload)
  | .imod f => some (f.toWord 0x58#7)
  | .btfld f => some (f.toWord 0x59#7)
  | .brmod f => some (f.toWord 0x5a#7)
  | .stride f => some (f.toWord 0x5c#7)
  | .ldx n f => some (f.toWord 0x60#7 n false)
  | .ldxZ n f => some (f.toWord 0x64#7 n false)
  | .ldxX n f => some (f.toWord 0x61#7 n)
  | .ldxXZ n f => some (f.toWord 0x65#7 n)
  | .ldb f => some (f.toWord 0x60#7 0#4 false)
  | .ldbx f => some (f.toWord 0x61#7 0#4)
  | .ldbz f => some (f.toWord 0x64#7 0#4 false)
  | .ldbxz f => some (f.toWord 0x65#7 0#4)
  | .ldw f => some (f.toWord 0x60#7 1#4 false)
  | .ldwx f => some (f.toWord 0x61#7 1#4)
  | .ldwz f => some (f.toWord 0x64#7 1#4 false)
  | .ldwxz f => some (f.toWord 0x65#7 1#4)
  | .ldt f => some (f.toWord 0x60#7 2#4 false)
  | .ldtx f => some (f.toWord 0x61#7 2#4)
  | .ldtz f => some (f.toWord 0x64#7 2#4 false)
  | .ldtxz f => some (f.toWord 0x65#7 2#4)
  | .ldo f => some (f.toWord 0x60#7 3#4 false)
  | .ldox f => some (f.toWord 0x61#7 3#4)
  | .ldoz f => some (f.toWord 0x64#7 3#4 false)
  | .ldoxz f => some (f.toWord 0x65#7 3#4)
  | .cache f => some (f.toWord 0x60#7 15#4)
  | .lea _ => none
  | .leaV _ => none
  | .stx n f => some (f.toWord 0x70#7 n false)
  | .stxX n f => some (f.toWord 0x71#7 n)
  | .stb f => some (f.toWord 0x70#7 0#4 false)
  | .stbx f => some (f.toWord 0x71#7 0#4)
  | .stw f => some (f.toWord 0x70#7 1#4 false)
  | .stwx f => some (f.toWord 0x71#7 1#4)
  | .stt f => some (f.toWord 0x70#7 2#4 false)
  | .sttx f => some (f.toWord 0x71#7 2#4)
  | .sto f => some (f.toWord 0x70#7 3#4 false)
  | .stox f => some (f.toWord 0x71#7 3#4)
  | .stptr f => some (f.toWord 0x70#7 7#4 false)
  | .stptrx f => some (f.toWord 0x71#7 7#4)
  | .stbz _ => none
  | .stwz _ => none
  | .sttz _ => none
  | .stoz _ => none
  | .jal c26 r => some (jalWord 0x78#7 c26 r)
  | .jmp c26 => some (jalWord 0x78#7 c26 0#2)
  | .bal c26 r => some (jalWord 0x79#7 c26 r)
  | .bra c26 => some (jalWord 0x79#7 c26 0#2)
  | .bsr c26 => some (jalWord 0x79#7 c26 1#2)
  | .jalr f => some (f.toWord 0x7a#7)
  | .push f => some (f.toWord 0x07#7 0x08#7)
  | .pop f => some (f.toWord 0x07#7 0x09#7)
  | .peek f => some (f.toWord 0x07#7 0x0a#7)
  | .stat f => some (f.toWord 0x07#7 0x0b#7)
  | .pushi f => some (f.toWord 0x07#7 0x0c#7)
  | .popi f => some (f.toWord 0x07#7 0x0d#7)
  | .peeki f => some (f.toWord 0x07#7 0x0e#7)
  | .stati f => some (f.toWord 0x07#7 0x0f#7)
  | .rex f => some (f.toWord 0x07#7 0x10#7)
  | .rte f => some (f.toWord 0x07#7 0x13#7)
  | .tlbrw f => some (f.toWord 0x07#7 0x1e#7)
  | .sysOther fn f => some (f.toWord 0x07#7 fn)
  | .lds n f => some (f.toWord 0x62#7 n true)
  | .ldVX n f => some (f.toWord 0x63#7 n true)
  | .cvlds n f => some (f.toWord 0x66#7 n true)
  | .cvldVX n f => some (f.toWord 0x67#7 n true)
  | .sts n f => some (f.toWord 0x72#7 n true)
  | .stVX n f => some (f.toWord 0x73#7 n true)
  | .cvsts n f => some (f.toWord 0x76#7 n true)
  | .cvstVX n f => some (f.toWord 0x77#7 n true)
  | .eorR f => some (f.toWord 0x02#7 0x02#7)
  | .eorI f => some (f.toWord 0x0a#7)
  | .morB f => some (f.toWord 0x02#7 0x30#7)
  | .negSubf f => some (RIF.toWord { imm16 := 0#16, ta := f.ta, ra := f.ra, tt := f.tt, rt := f.rt, v := f.v } 0x05#7)
  | .sra f => some (f.toWord 0x1c#7 0x04#7)
  | .srlp f => some (f.toWord 0x1c#7 0x05#7)
  | .sgtR f => some (f.toWord 0x02#7 0x2c#7)
  | .sgtuR f => some (f.toWord 0x02#7 0x2e#7)
  | .sle f => some (f.toWord 0x02#7 0x2d#7)
  | .sleu f => some (f.toWord 0x02#7 0x2f#7)
  | .sign f => some (R2F.toWord { tb := 0#2, rb := 0#5, ta := f.ta, ra := f.ra, tt := f.tt, rt := f.rt, v := f.v } 0x02#7 0x20#7)
  | .signF f => some (R2F.toWord { tb := 0#2, rb := 0#5, ta := f.ta, ra := f.ra, tt := f.tt, rt := f.rt, v := f.v } 0x35#7 0x10#7)
  | .fsgt f => some (f.toWord 0x35#7 0x12#7)
  | .fsge f => some (f.toWord 0x35#7 0x13#7)
  | .bgt f => some (f.toWord 0x48#7)
  | .ble f => some (f.toWord 0x49#7)
  | .bgtu f => some (f.toWord 0x4a#7)
  | .bleu f => some (f.toWord 0x4b#7)
  | .tst => some (0x160000001#36)
  | .ptrinc => some (0x200000001#36)
  | .transform => some (0x220000001#36)
  | .mulh => some (0x1e0000002#36)
  | .divsuR => some (0x240000002#36)
  | .remsuR => some (0x2a0000002#36)
  | .mulsuR => some (0x2c0000002#36)
  | .mulsuh => some (0x3a0000002#36)
  | .muluh => some (0x3c0000002#36)
  | .rgf => some (0x3e0000002#36)
  | .mort => some (0x640000002#36)
  | .mxort => some (0x660000002#36)
  | .divsuI => some (0x000000012#36)
  | .mulsuI => some (0x000000016#36)
  | .remsuI => some (0x000000020#36)
  | .sand => some (0x000000024#36)
  | .sor => some (0x000000025#36)
  | .setGroup => some (0x00000000d#36)
  | .df1 => some (0x000000030#36)
  | .df2 => some (0x000000031#36)
  | .pst1 => some (0x000000038#36)
  | .pst2 => some (0x000000039#36)
  | .df3 => some (0x000000032#36)
  | .df4 => some (0x000000033#36)
  | .pst3 => some (0x00000003a#36)
  | .pst4 => some (0x00000003b#36)
  | .frsqrte => some (0x020000034#36)
  | .ftoi => some (0x040000034#36)
  | .itof => some (0x060000034#36)
  | .fsign => some (0x0c0000034#36)
  | .fman => some (0x0e0000034#36)
  | .fs2d => some (0x120000034#36)
  | .fs2q => some (0x140000034#36)
  | .fd2q => some (0x160000034#36)
  | .fstat => some (0x180000034#36)
  | .isnan => some (0x1c0000034#36)
  | .finite => some (0x1e0000034#36)
  | .ftx => some (0x200000034#36)
  | .fcx => some (0x220000034#36)
  | .fex => some (0x240000034#36)
  | .fdx => some (0x260000034#36)
  | .frm => some (0x280000034#36)
  | .trunc => some (0x2a0000034#36)
  | .fsync => some (0x2c0000034#36)
  | .fres => some (0x2e0000034#36)
  | .fsigmoid => some (0x300000034#36)
  | .fd2s => some (0x320000034#36)
  | .fq2s => some (0x340000034#36)
  | .fq2d => some (0x360000034#36)
  | .fclass1 => some (0x3c0000034#36)
  | .unord => some (0x3e0000034#36)
  | .scaleb => some (0x000000035#36)
  | .frem => some (0x140000035#36)
  | .fnxt => some (0x160000035#36)
  | .fandB => some (0x180000035#36)
  | .forB => some (0x1a0000035#36)
  | .cpysgn => some (0x300000035#36)
  | .sgninv => some (0x320000035#36)
  | .sgnand => some (0x340000035#36)
  | .sgnor => some (0x360000035#36)
  | .sgnxor => some (0x380000035#36)
  | .sgnxnor => some (0x3a0000035#36)
  | .fclass2 => some (0x3c0000035#36)
  | .fma => some (0x000000036#36)
  | .fms => some (0x020000036#36)
  | .fnma => some (0x040000036#36)
  | .fnms => some (0x060000036#36)
  | .fblt => some (0x000000040#36)
  | .fbge => some (0x000000041#36)
  | .dfblt => some (0x000000042#36)
  | .dfbge => some (0x000000043#36)
  | .fbeq => some (0x000000046#36)
  | .fbne => some (0x000000047#36)
  | .exi3 => some (0x000000053#36)
  | .exi4 => some (0x000000054#36)
  | .unnamed5B => some (0x00000005b#36)
  | .vectorHalf => some (0x0000000d8#36)
  | .lsm => some (0x00000006f#36)
  | .ret => some (JalrF.toWord { c14 := 0#14, ta2 := 0#2, ra := 1#5, cnst5 := 0#5, rt2 := 0#2 } 0x7a#7)
  | .llal => some (0x000000007#36)
  | .llah => some (0x020000007#36)
  | .lpal => some (0x080000007#36)
  | .lpah => some (0x0a0000007#36)
  | .pfi => some (0x220000007#36)
  | .wfi => some (0x240000007#36)
  | .setkey => some (0x280000007#36)
  | .setto => some (0x300000007#36)
  | .getto => some (0x320000007#36)
  | .getzl => some (0x340000007#36)
  | .mvseg => some (0x3a0000007#36)
  | .sync => some (0x3e0000007#36)

end Sys2Proof
end

