-- ==== Sys2Proof/Machine/Fetch.lean ====
section
/-! DEFINITION. Instruction fetch (R83), and where a word is put so that the next fetch reads it. -/

namespace Sys2Proof.Machine

/-- The nine nybbles from an address do not cross address 2^64 (R36). -/
def fetchInRange (n : Word) : Bool := decide (n.toNat + 9 ≤ 2 ^ 64)

/-- A stored-to byte that no instruction-cache invalidate covered is not fetched (R95, R671). -/
def State.fetchByte (s : State) (a : Word) : Except Refusal Byte :=
  match s.physical .fetch a with
  | .error e => .error e
  | .ok p => if sparseGet false s.stale p then .error .staleCode else .ok (s.byteAt p)

/-- The `n` bytes from an address as instruction bytes, the lowest address least significant (R82, R83). -/
def State.fetchBytes (s : State) (a : Word) : Nat → Except Refusal Nat
  | 0 => .ok 0
  | n + 1 =>
    match s.fetchByte a with
    | .error e => .error e
    | .ok b =>
      match s.fetchBytes (a + 1#64) n with
      | .error e => .error e
      | .ok rest => .ok (b.toNat + 256 * rest)

/-- The word at nybble address `n`: five bytes from byte `n >> 1`, bits 35:0 of them for an even address and bits 39:4
for an odd one (R81, R83). DESIGN CHOICE, log 22: how code addresses are translated is not given (R102, N8); here each of the
five byte addresses goes through translate, with the access kind fetch. -/
def State.fetchCode (s : State) (n : Word) : Except Refusal Code :=
  if fetchInRange n then
    match s.fetchBytes (n >>> 1) 5 with
    | .error e => .error e
    | .ok w => .ok (BitVec.ofNat 36 (if n.getLsbD 0 then w / 16 else w))
  else .error .fetchPastTop

/-- A byte placed in memory, or in a device, from outside the machine: fetches see it. -/
def State.placeByte (s : State) (a : Word) (b : Byte) : State :=
  match s.translate .fetch a with
  | .error _ => s
  | .ok p =>
    if s.isDevice p then { s with device := sparseSet unlistedByte s.device p b }
    else { s with mem := sparseSet unlistedByte s.mem p b, stale := sparseSet false s.stale p false }

/-- The low `8 * n` bits of a number placed in `n` bytes from an address, the least significant byte lowest. -/
def State.placeBytes (s : State) (a : Word) (w : Nat) : Nat → State
  | 0 => s
  | n + 1 => (s.placeByte a (BitVec.ofNat 8 w)).placeBytes (a + 1#64) (w / 256) n

/-- The number of bytes that hold a longest bundle of five words from an odd nybble address. -/
def placedBytes : Nat := 23

/-- A word, and zeros above it, placed where the next fetch reads. -/
def State.placeCode (s : State) (w : Nat) : State :=
  s.placeBytes (s.ip >>> 1) (if s.ip.getLsbD 0 then 16 * w else w) placedBytes

end Sys2Proof.Machine
end

