-- ==== Sys2Proof/Machine/Bundle.lean ====
section
/-! DEFINITION. One execution of the machine: the boundary (interrupts, waiting), the bundle, the environment's next
input (R11, R180, R615, R640). -/

namespace Sys2Proof.Machine

/-- The instruction is a modifier word: the bundle goes on (R120, R180). -/
def isModifier : Instr → Bool
  | .exi0 _ => true
  | .exi1 _ => true
  | .exi2 _ => true
  | .imod _ => true
  | .btfld _ => true
  | .brmod _ => true
  | .stride _ => true
  | _ => false

/-- The words of a bundle from the present one, at most `n` of them; an undefined word raises (R171, R180). DESIGN CHOICE, log 32:
it raises behind EXI, BRMOD and STRIDE words too, before the check that the modifiers fit. -/
def runBundle : Nat → State → Out
  | 0, _ => .refused .malformedBundle
  | n + 1, s =>
    match s.fetchCode s.ipWord with
    | .error e => .refused e
    | .ok w =>
      match decode w with
      | .error _ => .next (s.raise .unimplementedInstruction)
      | .ok i =>
        if isModifier i then
          match exec i s with
          | .next t => runBundle n t
          | .fault r => .fault r
          | .refused r => .refused r
        else exec i s

/-- The longest bundle of the grammar: three EXI words, one other modifier, the instruction (R182). -/
def maxBundle : Nat := 5

/-- The boundary: an enabled interrupt is taken before the bundle is fetched (R615, R640). -/
def interruptOrRun (s : State) : Out :=
  match s.irq with
  | some c => if s.interruptsEnabled then .next (s.takeTrap c) else runBundle maxBundle s
  | none => runBundle maxBundle s

/-- While waiting nothing executes until an interrupt request is present (R528). -/
def boundary (s : State) : Out :=
  if s.waiting then
    match s.irq with
    | none => .next s
    | some _ => interruptOrRun { s with waiting := false }
  else interruptOrRun s

/-- The trace queue's contents as the hardware gives them: QUEUE_WIDTH bits each, at most QUEUE_DEPTH (R510). -/
def State.takeTrace (s : State) : Option (List Word) → State
  | none => s
  | some l => s.setQueue 15#6 ((l.map (queueValue s.cfg)).take s.cfg.queueDepth)

/-- What the devices' bytes read from now on (R91; log 37). -/
def State.takeDevice (s : State) : Option (List Host.Cell) → State
  | none => s
  | some l => { s with device := l.foldl (fun m c => sparseSet unlistedByte m c.1 c.2) [] }

/-- The environment's next input; none is no interrupt request (R57; log 10). DESIGN CHOICE, log 10: R51 does not state who else
pushes or pops queues (N18); here the environment changes queue 15 alone, every other queue changes by PUSH, PUSHI, POP and POPI only. -/
def State.nextInput (s : State) : State :=
  match s.env with
  | [] => { s with irq := none }
  | x :: rest => ({ s with irq := x.irq, env := rest }.takeTrace x.trace).takeDevice x.device

/-- The next input taken after a step that gave a next state. -/
def thenNextInput : Out → Out
  | .next s => .next s.nextInput
  | .fault r => .fault r
  | .refused r => .refused r

end Sys2Proof.Machine
end

