-- ==== Sys2Proof/Machine/Step.lean ====
section
/-! DEFINITION. The step of the machine: one bundle, one taken interrupt, or one round of waiting. -/

namespace Sys2Proof.Machine

/-- One step (R11, R180, R640, R528). -/
def step (s : State) : Host.Outcome State Fault Refusal := thenNextInput (boundary s)

/-- The state with an instruction's word, and zeros above it, where the next step fetches; no wait, no interrupt request
and no pending modifier stands before it (log 27). -/
def State.withFetchWord (s : State) (nbits w : Nat) : State :=
  { s with waiting := false, irq := none, mods := Mods.empty }.placeCode (w % 2 ^ nbits)

end Sys2Proof.Machine
end

