-- ==== Sys2Proof/Safety.lean ====
section
/-! DEFINITION. What the claims say: the invariant of the machine's states, and the words in which statements speak of
an instruction's effect and of everything it leaves unchanged. -/

namespace Sys2Proof.Machine

/-! ## The invariant -/

/-- The invariant: the parameters are as the spec asks (R6, R552, R651); x0 holds zero (R31); memory, vector registers,
TLB and stale bytes are in canonical form, and hold nothing beyond 2^64 bytes, VLMAX elements and 4096 entries; the
masks have VLMAX bits (R40); the CSRs' own registers and the devices' bytes are in canonical form; the queues have at most
QUEUE_DEPTH values of QUEUE_WIDTH bits (R510); no modifier is pending (R180). -/
structure State.Inv (s : State) : Prop where
  params : s.cfg.wf = true
  zero : s.regs[0] = 0#64
  mem : Memory.wf s.mem = true
  memRange : ∀ c ∈ s.mem, c.1 < 2 ^ 64
  stale : sparseWf false s.stale = true
  staleRange : ∀ c ∈ s.stale, c.1 < 2 ^ 64
  vregs : sparseWf 0#64 s.vregs = true
  vregsRange : ∀ c ∈ s.vregs, c.1 < 32 * s.cfg.vlmax
  tlb : sparseWf 0#64 s.tlb = true
  tlbRange : ∀ c ∈ s.tlb, c.1 < 4096
  csrs : sparseWf 0#64 s.csrs = true
  csrsRange : ∀ c ∈ s.csrs, c.1 < 2 ^ 14
  device : sparseWf unlistedByte s.device = true
  masks : ∀ m : MaskNo, s.vm[m.toNat]'m.isLt = s.mask m
  queueLength : ∀ q : BitVec 6, (s.queue q).length ≤ s.cfg.queueDepth
  queueWidth : ∀ q : BitVec 6, ∀ w ∈ s.queue q, queueValue s.cfg w = w
  noMods : s.mods = Mods.empty

/-- The outcome is a next state of which `p` holds. -/
def nextWith (o : Out) (p : State → Prop) : Prop := ∃ t, o = .next t ∧ p t

/-! ## Effects and frames: `t` is `s` after one instruction; every field but those named is unchanged -/

/-- Nothing but ip, which is past the bundle, and the modifiers, which are used up. -/
def onlyAdvanced (s t : State) : Prop := t = { s with ip := s.ipNext, mods := Mods.empty }

/-- ip is at a target; nothing else. -/
def onlyJumped (target : Word) (s t : State) : Prop := t = { s with ip := target, mods := Mods.empty }

/-- x[r] <- w with ip at a target: no other register; x0 reads zero. -/
def linkedAndJumped (r : RegNo) (w target : Word) (s t : State) : Prop :=
  t = { s with regs := t.regs, ip := target, mods := Mods.empty } ∧
    ∀ q, t.reg q = if q = 0#5 then 0#64 else if q = r then w else s.reg q

/-- x[r] <- w and ip past the bundle: no other register; x0 reads zero. -/
def wroteReg (r : RegNo) (w : Word) (s t : State) : Prop := linkedAndJumped r w s.ipNext s t

/-- v[r][e] <- g e for the elements below VL that `g` gives a value; no other element. -/
def wroteElems (r : RegNo) (g : Nat → Option Word) (s t : State) : Prop :=
  t = { s with vregs := t.vregs, ip := s.ipNext, mods := Mods.empty } ∧
    ∀ q e, t.elem q e = if q = r ∧ e < s.vlen then (g e).getD (s.elem q e) else s.elem q e

/-- vm[m] <- x on VLMAX bits; no other mask. -/
def wroteMask (m : MaskNo) (x : BitVec 128) (s t : State) : Prop :=
  t = { s with vm := t.vm, ip := s.ipNext, mods := Mods.empty } ∧
    ∀ q, t.mask q = if q = m then x &&& maskBits s.cfg.vlmax else s.mask q

/-- Elements under a mask as the pages print it: `f e` if active, zero if inactive and zeroing, else unchanged (R550,
R551). -/
def masked (s : State) (sel : MaskSel) (f : Nat → Word) (e : Nat) : Option Word :=
  match sel with
  | none => some (f e)
  | some (m, z) => if (s.mask m).getLsbD e then some (f e) else if z then some 0#64 else none

/-- The trap sequence of R620 with a cause code: PMSTACK pushed with 10, cause[4], EIP and ip; nothing else. -/
def trapped (code : Word) (s t : State) : Prop :=
  t = { s with
    pmstack := (s.pmstack <<< 4) ||| 10#64, cause := s.cause.set 4 code, eip := s.ip, ip := s.tvec[4], mods := Mods.empty }

/-- UnimplementedInstruction is raised. -/
def raisedUnimplemented (s t : State) : Prop := trapped (s.cfg.causeUnimplemented.setWidth 64) s t

/-! ## Memory -/

/-- Every byte of an access reaches memory or a device, and its alignment is not refused. -/
def accessible (s : State) (k : Access) (a : Word) (n : Nat) : Prop :=
  s.misaligned a n = false ∧ ∀ i < n, ∃ p, s.physical k (a + BitVec.ofNat 64 i) = .ok p

/-- Why an access is refused: its alignment, or a byte that does not translate or is neither memory's nor a device's (R88, R91,
R102). -/
def blockedBy (s : State) (k : Access) (n : Nat) (a : Word) (e : Refusal) : Prop :=
  s.misaligned a n = true ∧ e = .misaligned ∨ ∃ i < n, s.physical k (a + BitVec.ofNat 64 i) = .error e

/-- An access refuses the instruction: no exception is taken (R613). -/
def refusedFor (s : State) (k : Access) (n : Nat) (o : Out) (a : Word) : Prop := ∃ e, o = .refused e ∧ blockedBy s k n a e

/-- An instruction whose accesses of `n` bytes are at the addresses `as`: where all are accessible it does what `good` says, else
it is refused for one of them. -/
def onAccesses (s : State) (k : Access) (n : Nat) (as : List Word) (o : Out) (good : Prop) : Prop :=
  ((∀ a ∈ as, accessible s k a n) → good) ∧ ((∃ a ∈ as, ¬ accessible s k a n) → ∃ a ∈ as, refusedFor s k n o a)

/-- The address of the byte that holds the nybble at nybble address `n + i` (R81). -/
def codeByte (n : Word) (i : Nat) : Word := BitVec.ofNat 64 ((n.toNat + i) / 2)

/-- What the fetch at nybble address `n` gives (R36, R81 to R83, R91, R95, R102): past the top of the address space it is refused;
where each of the five bytes from byte `n / 2` on translates for a fetch (log 22), is memory's or a device's, and is not stale
(log 20), nybble `k` of the word is the low half of the byte that holds nybble address `n + k` if that is even, else the high
half; where one of them does not it is refused. -/
def fetched (s : State) (n : Word) (r : Except Refusal Code) : Prop :=
  let fetchable := fun a => ∃ p, s.physical .fetch a = .ok p ∧ sparseGet false s.stale p = false
  if 2 ^ 64 < n.toNat + 9 then r = .error .fetchPastTop
  else
    ((∀ i < 5, fetchable (codeByte n (2 * i))) → ∃ w, r = .ok w ∧
      ∀ k < 9, ∀ p, s.physical .fetch (codeByte n k) = .ok p →
        w.extractLsb' (4 * k) 4 = (s.byteAt p).extractLsb' (4 * ((n.toNat + k) % 2)) 4) ∧
    ((∃ i < 5, ¬ fetchable (codeByte n (2 * i))) → ∃ e, r = .error e ∧ ∃ i < 5,
      s.physical .fetch (codeByte n (2 * i)) = .error e ∨
      e = .staleCode ∧ ∃ p, s.physical .fetch (codeByte n (2 * i)) = .ok p ∧ sparseGet false s.stale p = true)

/-- The value of an access, little-endian: byte `i` is the byte of memory, or what the device's byte reads, at address
`a + i`. -/
def holdsBytes (s : State) (k : Access) (a : Word) (n : Nat) (w : Word) : Prop :=
  w.toNat < 2 ^ (8 * n) ∧
    ∀ i < n, ∀ p, s.physical k (a + BitVec.ofNat 64 i) = .ok p → w.extractLsb' (8 * i) 8 = s.byteAt p

/-- What a store of the bytes `a` to `a + n - 1` gives to devices: byte, value, in ascending order (R91; log 37). -/
def deviceStores (s : State) (a : Word) (n : Nat) (w : Word) : List Host.Cell :=
  (List.range n).filterMap (fun i =>
    match s.physical .write (a + BitVec.ofNat 64 i) with
    | .ok p => if s.isDevice p then some (p, w.extractLsb' (8 * i) 8) else none
    | .error _ => none)

/-- The bytes `a` to `a + n - 1` are stored, little-endian: a byte of memory holds the last one stored to it and is stale for
fetches (R95), those of devices go to the devices, and every byte outside is unchanged. No other field changes. -/
def storedBytes (a : Word) (n : Nat) (w : Word) (s t : State) : Prop :=
  t = { s with mem := t.mem, stale := t.stale, deviceOut := t.deviceOut } ∧
    (∀ i < n, ∀ p, s.physical .write (a + BitVec.ofNat 64 i) = .ok p → s.isDevice p = false →
      (∀ j < n, i < j → s.physical .write (a + BitVec.ofNat 64 j) ≠ .ok p) →
      t.byteAt p = w.extractLsb' (8 * i) 8 ∧ sparseGet false t.stale p = true) ∧
    (∀ p, (s.isDevice p = true ∨ ∀ i < n, s.physical .write (a + BitVec.ofNat 64 i) ≠ .ok p) →
      t.byteAt p = s.byteAt p ∧ sparseGet false t.stale p = sparseGet false s.stale p) ∧
    t.deviceOut = s.deviceOut ++ deviceStores s a n w

/-- A store of an instruction: the bytes, and ip past the bundle. -/
def stored (a : Word) (n : Nat) (w : Word) (s t : State) : Prop :=
  ∃ u, storedBytes a n w s u ∧ t = { u with ip := s.ipNext, mods := Mods.empty }

/-- Stores of (address, value) pairs of `n` bytes, one after the other. -/
def storedInOrder (n : Nat) : List (Word × Word) → State → State → Prop
  | [], s, t => t = s
  | (a, w) :: rest, s, t => ∃ u, storedBytes a n w s u ∧ storedInOrder n rest u t

/-- STPTR's loop (R446), at most `n` rounds of it: while the address is not zero it is shifted right by eight and a zero
byte is stored there. -/
def clearedCards : Nat → Word → State → State → Prop
  | 0, _, s, t => t = s
  | n + 1, ea, s, t =>
    if ea = 0#64 then t = s else ∃ u, storedBytes (ea >>> 8) 1 0#64 s u ∧ clearedCards n (ea >>> 8) u t

/-- The value of a load of `n` bytes in the register: sign- or zero-extended (R85). -/
def extended (signed : Bool) (n : Nat) (w : Word) : Word :=
  if signed then BitVec.ofInt 64 (w.setWidth (8 * n)).toInt else w

/-! ## Signed readings -/

/-- Signed division truncated toward zero; the corners are the parameter's (R226). -/
def signedQuotient (op : DivOp) (a b : Word) : Word :=
  if b = 0#64 ∨ (a.toInt = -2 ^ 63 ∧ b.toInt = -1) then Config.divCorner op a b
  else BitVec.ofInt 64 (a.toInt.tdiv b.toInt)

/-- Signed remainder with the sign of the dividend; the corners are the parameter's (R226, R322). -/
def signedRemainder (a b : Word) : Word :=
  if b = 0#64 ∨ (a.toInt = -2 ^ 63 ∧ b.toInt = -1) then Config.divCorner .rem a b
  else BitVec.ofInt 64 (a.toInt.tmod b.toInt)

/-- Unsigned division; the corner is the parameter's (R225, R226). -/
def unsignedQuotient (op : DivOp) (a b : Word) : Word :=
  if b = 0#64 then Config.divCorner op a b else BitVec.ofNat 64 (a.toNat / b.toNat)

/-- Unsigned remainder; the corner is the parameter's (R322). -/
def unsignedRemainder (a b : Word) : Word :=
  if b = 0#64 then Config.divCorner .remu a b else BitVec.ofNat 64 (a.toNat % b.toNat)

/-- 1 if the proposition holds, else 0 (R266). -/
def truth (p : Prop) [Decidable p] : Word := if p then 1#64 else 0#64

/-! ## Shapes of instructions -/

/-- The four cases of an instruction with a scalar and a vector form (R200, R550, R552). Scalar form: x[rt] <- val 0.
Vector form: v[rt][e] <- val e for e < VL under the mask, refused while VL exceeds VLMAX. A vector operand or target in
the scalar form, or a scalar target in the vector form, raises UnimplementedInstruction: of the two treatments R172
allows, the model's choice (log 13). -/
def elementwise (s : State) (v tt vectorSource : Bool) (rt : RegNo) (sel : MaskSel) (val : Nat → Word) (o : Out) : Prop :=
  if v = true then
    if tt = true then
      if s.cfg.vlmax < s.vl.toNat then o = .refused .vectorLength else nextWith o (wroteElems rt (masked s sel val) s)
    else nextWith o (raisedUnimplemented s)
  else if tt = true ∨ vectorSource = true then nextWith o (raisedUnimplemented s)
  else nextWith o (wroteReg rt (val 0) s)

/-- An R1-format instruction computes `g` of Ra under its own mask field. -/
def unaryForm (c : R1F → Instr) (g : Word → Word) : Prop :=
  ∀ (f : R1F) (s : State), s.mods.fit .plain = true →
    elementwise s f.v f.tt f.ta f.rt (some (f.m3, f.z)) (fun e => g (s.srcA f.ta f.ra e)) (exec (c f) s)

/-- An R2-format instruction computes `g` of Ra and Rb, a constant Rb read as `k`. -/
def binaryForm (c : R2F → Instr) (k : ConstKind) (g : Word → Word → Word) : Prop :=
  ∀ (f : R2F) (s : State), s.mods.fit .plain = true →
    elementwise s f.v f.tt (f.ta || isVec f.tb) f.rt s.mods.maskSel
      (fun e => g (s.srcA f.ta f.ra e) (s.srcSpec k f.tb f.rb e)) (exec (c f) s)

/-- An R3-format instruction computes `g` of Ra, Rb and the Rc of its modifier. -/
def ternaryForm (c : R2F → Instr) (kb kc : ConstKind) (g : Word → Word → Word → Word) : Prop :=
  ∀ (f : R2F) (s : State), s.mods.fit .plain = true →
    elementwise s f.v f.tt (f.ta || isVec f.tb || isVec s.mods.rc.1) f.rt s.mods.maskSel
      (fun e => g (s.srcA f.ta f.ra e) (s.srcSpec kb f.tb f.rb e) (s.opC kc e)) (exec (c f) s)

/-- An R4-format instruction computes `g` of Ra, Rb and the Rc and Rd of its modifier. -/
def quaternaryForm (c : R2F → Instr) (kb kc : ConstKind) (g : Word → Word → Word → Word → Word) : Prop :=
  ∀ (f : R2F) (s : State), s.mods.fit .plain = true →
    elementwise s f.v f.tt (f.ta || isVec f.tb || isVec s.mods.rc.1 || isVec s.mods.rd.1) f.rt s.mods.maskSel
      (fun e => g (s.srcA f.ta f.ra e) (s.srcSpec kb f.tb f.rb e) (s.opC kc e) (s.opD kc e)) (exec (c f) s)

/-- A shift by a six-bit count computes `g` of Ra and the count. -/
def countForm (c : ShiftF → Instr) (g : Word → Nat → Word) : Prop :=
  ∀ (f : ShiftF) (s : State), s.mods.fit .plain = true →
    elementwise s f.v f.tt f.ta f.rt s.mods.maskSel (fun e => g (s.srcA f.ta f.ra e) f.imm6.toNat) (exec (c f) s)

/-- An RI-format instruction computes `g` of Ra and its immediate: `ext` of Constant16, or the EXI words' (R155, R156). -/
def immediateForm (c : RIF → Instr) (ext : BitVec 16 → Word) (g : Word → Word → Word) : Prop :=
  ∀ (f : RIF) (s : State), s.mods.fit .extended = true →
    elementwise s f.v f.tt f.ta f.rt s.mods.maskSel
      (fun e => g (s.srcA f.ta f.ra e) (s.mods.imm (ext f.imm16) (f.imm16.extractLsb' 0 10))) (exec (c f) s)

/-- An alternate mnemonic without a second source computes `g` of Ra. -/
def singleForm (c : RtF → Instr) (g : Word → Word) : Prop :=
  ∀ (f : RtF) (s : State), s.mods.fit .plain = true →
    elementwise s f.v f.tt f.ta f.rt s.mods.maskSel (fun e => g (s.srcA f.ta f.ra e)) (exec (c f) s)

/-- A conditional branch (R460 to R462) on `cond` of Ra and Rb, a constant Rb read as `k`. Without BRMOD nothing but ip
changes; with it x[Rt] takes the address after the branch, taken or not, and the base is Rc, or the branch's own address
for x31. -/
def branchForm (c : BrF → Instr) (k : ConstKind) (cond : Word → Word → Prop) : Prop :=
  ∀ (f : BrF) (s : State), s.mods.fit .branch = true →
    if f.ta = true ∨ isVec f.tb = true then nextWith (exec (c f) s) (raisedUnimplemented s)
    else
      match s.mods.tail with
      | some (.brmod m) =>
        if isVec m.tc = true ∨ m.tt = true then nextWith (exec (c f) s) (raisedUnimplemented s)
        else
          let base := if m.tc = 0#2 ∧ m.rc = 31#5 then s.ipWord else s.srcSpec .signed m.tc m.rc 0
          let disp30 : BitVec 30 := m.c15 ++ f.disp15
          (cond (s.reg f.ra) (s.srcSpec k f.tb f.rb 0) →
            nextWith (exec (c f) s)
              (linkedAndJumped m.rt s.ipNext (BitVec.ofInt 64 (base.toInt + 9 * disp30.toInt)) s)) ∧
          (¬ cond (s.reg f.ra) (s.srcSpec k f.tb f.rb 0) →
            nextWith (exec (c f) s) (linkedAndJumped m.rt s.ipNext s.ipNext s))
      | _ =>
        (cond (s.reg f.ra) (s.srcSpec k f.tb f.rb 0) →
          nextWith (exec (c f) s) (onlyJumped (BitVec.ofInt 64 (s.ipWord.toInt + 9 * f.disp15.toInt)) s)) ∧
        (¬ cond (s.reg f.ra) (s.srcSpec k f.tb f.rb 0) → nextWith (exec (c f) s) (onlyAdvanced s))

/-- A load, displacement form (R411), of `n` bytes; an access that is not accessible is refused. -/
def loadForm (c : LdF → Instr) (signed : Bool) (n : Nat) : Prop :=
  ∀ (f : LdF) (s : State), s.mods.fit .extended = true →
    if f.tt = true ∨ f.ta = true then nextWith (exec (c f) s) (raisedUnimplemented s)
    else
      let ea := s.reg f.ra + s.mods.disp f.disp12
      onAccesses s .read n [ea] (exec (c f) s)
        (∃ w, holdsBytes s .read ea n w ∧ nextWith (exec (c f) s) (wroteReg f.rt (extended signed n w) s))

/-- A load, indexed form (R411): Ra plus Rb, times the size where Sc3 is 1; an access that is not accessible is refused. -/
def loadIndexedForm (c : LdxF → Instr) (signed : Bool) (n : Nat) : Prop :=
  ∀ (f : LdxF) (s : State), s.mods.fit .plain = true →
    if f.tt = true ∨ f.ta = true ∨ isVec f.tb = true then nextWith (exec (c f) s) (raisedUnimplemented s)
    else if 2 ≤ f.sc.toNat then exec (c f) s = .refused .reservedScale
    else
      let ea := s.reg f.ra + s.srcSpec .signed f.tb f.rb 0 * (if f.sc = 1#3 then BitVec.ofNat 64 n else 1#64)
      onAccesses s .read n [ea] (exec (c f) s)
        (∃ w, holdsBytes s .read ea n w ∧ nextWith (exec (c f) s) (wroteReg f.rt (extended signed n w) s))

/-- A store, displacement form (R435), of `n` bytes; an access that is not accessible is refused. -/
def storeForm (c : StF → Instr) (n : Nat) : Prop :=
  ∀ (f : StF) (s : State), s.mods.fit .extended = true →
    if f.ta = true ∨ isVec f.tb = true then nextWith (exec (c f) s) (raisedUnimplemented s)
    else
      let ea := s.reg f.ra + s.mods.disp f.disp11
      onAccesses s .write n [ea] (exec (c f) s) (nextWith (exec (c f) s) (stored ea n (s.srcSpec .signed f.tb f.rb 0) s))

/-- A store, indexed form (R435): Ra plus the modifier's Rc, times the size where Sc3 is 1; an access that is not accessible is
refused. -/
def storeIndexedForm (c : StxF → Instr) (n : Nat) : Prop :=
  ∀ (f : StxF) (s : State), s.mods.fit .plain = true →
    if f.ta = true ∨ isVec f.tb = true ∨ isVec s.mods.rc.1 = true then nextWith (exec (c f) s) (raisedUnimplemented s)
    else if 2 ≤ f.sc.toNat then exec (c f) s = .refused .reservedScale
    else
      let ea := s.reg f.ra + s.opC .signed 0 * (if f.sc = 1#3 then BitVec.ofNat 64 n else 1#64)
      onAccesses s .write n [ea] (exec (c f) s) (nextWith (exec (c f) s) (stored ea n (s.srcSpec .signed f.tb f.rb 0) s))

/-- A mask-register operation: vm[vmt] <- g of the two masks. -/
def maskForm (c : Vm3F → Instr) (g : BitVec 128 → BitVec 128 → BitVec 128) : Prop :=
  ∀ (f : Vm3F) (s : State), s.mods.fit .plain = true →
    nextWith (exec (c f) s) (wroteMask f.vmt (g (s.mask f.vma) (s.mask f.vmb)) s)

/-- A mask register read into a scalar register: x[rt] <- w where `r` holds of the mask and `w`. -/
def maskReadForm (c : VmGetF → Instr) (r : Params → BitVec 128 → Word → Prop) : Prop :=
  ∀ (f : VmGetF) (s : State), s.mods.fit .plain = true →
    if f.tt2 = 0#2 then ∃ w, r s.cfg (s.mask f.vm) w ∧ nextWith (exec (c f) s) (wroteReg f.rt w s)
    else nextWith (exec (c f) s) (raisedUnimplemented s)

/-- BYTNDX over a vector (R213): the number 8 * e + k of the first byte equal to its element's key, of the active elements below VL,
or -1. -/
def firstByteOf (s : State) (sel : MaskSel) (ra : RegNo) (key : Nat → Byte) (w : Word) : Prop :=
  let hit := fun i => i < 8 * s.vl.toNat ∧ s.active sel (i / 8) = true ∧
    (s.elem ra (i / 8)).extractLsb' (8 * (i % 8)) 8 = key (i / 8)
  (∃ i, hit i ∧ (∀ j < i, ¬ hit j) ∧ w = BitVec.ofNat 64 i) ∨ ((∀ j, ¬ hit j) ∧ w = 0xFFFFFFFFFFFFFFFF#64)

/-- CHK: the checked value lies within the bounds (R479, R481): `cn` says which of them are excluded. -/
def boundsHold (cn : BitVec 2) (lower x upper : Word) : Prop :=
  (if cn = 1#2 ∨ cn = 3#2 then lower.toInt < x.toInt else lower.toInt ≤ x.toInt) ∧
    (if cn = 2#2 ∨ cn = 3#2 then x.toInt < upper.toInt else x.toInt ≤ upper.toInt)

/-- CHK after its operands (R479, R481): nothing happens within the bounds, else BoundsCheck is raised. -/
def checked (ok : Prop) (s : State) (o : Out) : Prop :=
  (ok → nextWith o (onlyAdvanced s)) ∧ (¬ ok → nextWith o (trapped (s.cfg.causeBoundsCheck.setWidth 64) s))

/-- queue[q] is replaced by `l`; no other queue and no other field changes. -/
def queueReplaced (q : BitVec 6) (l : List Word) (s t : State) : Prop :=
  t = { s with queues := t.queues } ∧ ∀ k, t.queue k = if k = q then l else s.queue k

/-- PUSH (R511): the low QUEUE_WIDTH bits of `w` at the tail of queue[q], unless it is full. -/
def pushed (q : BitVec 6) (w : Word) (s : State) (o : Out) : Prop :=
  if (s.queue q).length < s.cfg.queueDepth then
    nextWith o (fun t => ∃ u, queueReplaced q (s.queue q ++ [BitVec.ofNat 64 (w.toNat % 2 ^ s.cfg.queueWidth)]) s u ∧
      onlyAdvanced u t)
  else o = .refused .queueFull

/-- POP (R512): the head of queue[q] into x[rt], and out of the queue; of an empty queue some value, the queue unchanged. -/
def popped (q : BitVec 6) (rt : RegNo) (s : State) (o : Out) : Prop :=
  match s.queue q with
  | w :: rest => nextWith o (fun t => ∃ u, queueReplaced q rest s u ∧ wroteReg rt w u t)
  | [] => nextWith o (fun t => ∃ w, wroteReg rt w { s with free := t.free } t)

/-- PEEK (R513): the head of queue[q] into x[rt]; of an empty queue some value. -/
def peeked (q : BitVec 6) (rt : RegNo) (s : State) (o : Out) : Prop :=
  match s.queue q with
  | w :: _ => nextWith o (wroteReg rt w s)
  | [] => nextWith o (fun t => ∃ w, wroteReg rt w { s with free := t.free } t)

/-- STAT (R514): bit 63 empty, bit 62 data valid, bits 9:0 the count. -/
def statRead (q : BitVec 6) (rt : RegNo) (s : State) (o : Out) : Prop :=
  nextWith o (wroteReg rt
    (BitVec.ofNat 64 ((if (s.queue q).length = 0 then 2 ^ 63 else 2 ^ 62) + (s.queue q).length % 1024)) s)

/-- A CSR instruction (R501 to R503) with operation `op2`: 0 reads, 1 writes Ra, 2 sets and 3 clears the bits of Ra. First a
vector type code of Ra raises, but for operation 0, which ignores it (logs 13, 17, 32), then the access check. A read shows the
bits of the read mask and a write reaches those of the write mask; a write where csr_map says that it raises raises
PrivilegeViolation (log 39). -/
def csrForm (op2 : BitVec 2) (c : CsrF → Instr) : Prop :=
  ∀ (f : CsrF) (s : State), s.mods.fit .plain = true →
    if op2 ≠ 0#2 ∧ isVec f.ta2 = true then nextWith (exec (c f) s) (raisedUnimplemented s)
    else if s.mode.index.val < (f.regno.extractLsb' 12 2).toNat then
      nextWith (exec (c f) s) (trapped (s.cfg.causePrivilege.setWidth 64) s)
    else
      match csrLookup s.cfg f.regno with
      | none => nextWith (exec (c f) s) (raisedUnimplemented s)
      | some d =>
        let old := s.csrRead d.reg &&& d.readMask
        let a := s.srcSpec .signed f.ta2 f.ra 0
        let new := if op2 = 1#2 then a else if op2 = 2#2 then old ||| a else old &&& ~~~a
        let put := (s.csrRead d.reg &&& ~~~d.writeMask) ||| (new &&& d.writeMask)
        if op2 = 0#2 then nextWith (exec (c f) s) (wroteReg f.rt old s)
        else if op2 ≠ 1#2 ∧ d.setClear = false then exec (c f) s = .refused .csrCapability
        else
          match d.onWrite with
          | .writes => nextWith (exec (c f) s) (wroteReg f.rt old (s.csrWrite d.reg put))
          | .ignored => nextWith (exec (c f) s) (wroteReg f.rt old s)
          | .raises => nextWith (exec (c f) s) (trapped (s.cfg.causePrivilege.setWidth 64) s)

/-- The CSR names a register of its own, which holds any word. -/
def csrHolds : CsrReg → Bool
  | .semaphore _ | .dcacheEnable | .other _ => false
  | _ => true

/-- A set-mask comparison (R585, R586) on `cond` of elements of Ra and Rb: bit e of vm[vmt] below VL under the mask; from
VL up unchanged; codes 4 to 7 are refused. -/
def setMaskForm (c : SetMaskF → Instr) (k : ConstKind) (cond : BitVec 3 → Word → Word → Prop) : Prop :=
  ∀ (f : SetMaskF) (s : State), s.mods.fit .plain = true →
    if s.cfg.vlmax < s.vl.toNat then exec (c f) s = .refused .vectorLength
    else if 4 ≤ f.cond.toNat then exec (c f) s = .refused .reservedCondition
    else
      ∃ x : BitVec 128, nextWith (exec (c f) s) (wroteMask f.vmt x s) ∧
        ∀ e < 128,
          (s.vl.toNat ≤ e → x.getLsbD e = (s.mask f.vmt).getLsbD e) ∧
          (e < s.vl.toNat → s.active s.mods.maskSel e = true →
            (x.getLsbD e = true ↔ cond f.cond (s.srcA f.ta f.ra e) (s.srcSpec k f.tb f.rb e))) ∧
          (e < s.vl.toNat → s.active s.mods.maskSel e = false →
            x.getLsbD e = (!zeroing s.mods.maskSel && (s.mask f.vmt).getLsbD e))

/-- A vector load or store under its STRIDE word (R590): `body` of the word, unless the word is missing, does not fit the
opcode, the base is a vector, VL exceeds VLMAX or the size is reserved. -/
def strideForm (o : Out) (s : State) (indexed misuse : Bool) (func4 : BitVec 4) (body : StrideF → Nat → Prop) : Prop :=
  s.mods.fit .vectorMemory = true →
    match s.mods.tail with
    | some (.stride m) =>
      if isVec m.tc ≠ indexed then o = .refused .strideMismatch
      else if misuse = true then nextWith o (raisedUnimplemented s)
      else if s.cfg.vlmax < s.vl.toNat then o = .refused .vectorLength
      else if 4 ≤ func4.toNat then o = .refused .reservedSize
      else body m (2 ^ func4.toNat)
    | _ => o = .refused .strideMissing

/-- Where element or position `x` of a vector load or store is (R591, R592). -/
def strideAddress (s : State) (m : StrideF) (base : Word) (x : Nat) : Word :=
  if m.tc = 1#2 then base + s.elem m.rc x
  else if m.tc = 0#2 then base + s.reg m.rc * BitVec.ofNat 64 x
  else base + BitVec.ofNat 64 ((32 * (m.tc.toNat % 2) + m.rc.toNat) * x)

/-- The active elements below VL, ascending. -/
def activeElements (s : State) (sel : MaskSel) : List Nat :=
  (List.range s.vl.toNat).filter (fun x => s.active sel x)

/-- Position `j` of a packed result (R582, R593): `g` of the j-th of `n`, then zero or unchanged. -/
def packed (z : Bool) (n : Nat) (g : Nat → Word) (j : Nat) : Option Word :=
  if j < n then some (g j) else if z then some 0#64 else none

/-! ## Which instructions may do what -/

/-- The instructions that store to memory. -/
def isStore : Instr → Bool
  | .stx _ _ | .stxX _ _ | .stb _ | .stbx _ | .stw _ | .stwx _ | .stt _ | .sttx _ | .sto _ | .stox _ | .stptr _
  | .stptrx _ | .stbz _ | .stwz _ | .sttz _ | .stoz _ | .sts _ _ | .stVX _ _ | .cvsts _ _ | .cvstVX _ _ => true
  | _ => false

/-- The instructions whose own effect is on the exception and mode registers. -/
def isSystemControl : Instr → Bool
  | .brk _ | .csrx _ _ | .csrr _ | .csrw _ | .csrs _ | .csrc _ | .rex _ | .rte _ | .pfi => true
  | _ => false

/-- The instructions that take EXI words (R183); CACHE is not one of them (the model's choice, log 40). -/
def takesExi : Instr → Bool
  | .addI _ | .subf _ | .mulI _ | .andI _ | .orI _ | .xorI _ | .muluI _ | .divI _ | .divuI _ | .mulfI _ | .permI _
  | .remI _ | .remuI _ | .wydndxI _ | .divr _ | .u21ndxI _ | .seqI _ | .sneI _ | .sltI _ | .sgtI _ | .sltuI _
  | .sgtuI _ | .eorI _ | .chkI _ | .bytndxI _ | .ldx _ _ | .ldxZ _ _ | .ldb _ | .ldbz _ | .ldw _ | .ldwz _ | .ldt _
  | .ldtz _ | .ldo _ | .ldoz _ | .stx _ _ | .stb _ | .stw _ | .stt _ | .sto _ | .stptr _ | .stbz _ | .stwz _ | .sttz _
  | .stoz _ | .lds _ _ | .ldVX _ _ | .cvlds _ _ | .cvldVX _ _ | .sts _ _ | .stVX _ _ | .cvsts _ _ | .cvstVX _ _ => true
  | _ => false

/-- The instructions that take BRMOD (R187). -/
def takesBrmod : Instr → Bool
  | .beq _ | .bne _ | .blt _ | .bge _ | .bltu _ | .bgeu _ | .bbs _ | .bgt _ | .ble _ | .bgtu _ | .bleu _ => true
  | _ => false

/-- The instructions that take STRIDE (R188). -/
def takesStride : Instr → Bool
  | .lds _ _ | .ldVX _ _ | .cvlds _ _ | .cvldVX _ _ | .sts _ _ | .stVX _ _ | .cvsts _ _ | .cvstVX _ _ => true
  | _ => false

end Sys2Proof.Machine
end

