-- ==== Sys2Proof/Certificates/Slice0/Obligations.lean ====
section
/-! DEFINITION. The statements about the model. Each names the rules it formalises; where one rests on a choice of the
model it says so and names the log entry. The words it uses (`nextWith`, `wroteReg`, `elementwise`, ...) stand in
Sys2Proof/Safety.lean. -/

open Sys2Proof Sys2Proof.Machine

/-! ## Encoding -/

/-- Every well-formed instruction has a word, and decoding it gives the instruction back, every field at every value. -/
def Obligations.DecodeOfEncode : Prop := ∀ i : Instr, i.wellFormed = true → ∃ w, encode i = some w ∧ decode w = .ok i

/-- The decoder answers well-formed instructions only, and re-encoding what it answered decodes to the same. -/
def Obligations.DecodedIsWellFormed : Prop :=
  ∀ (w : Code) (i : Instr), decode w = .ok i → i.wellFormed = true ∧ ∃ u, encode i = some u ∧ decode u = decode w

/-- Words written out from the encoding rules decode to their instructions: ADD x1,x2,x3; ADD x1,x2,#-3; SYNC; RET;
BRK #5; CACHE invall; an empty {R2} cell. -/
def Obligations.SpecWordsDecode : Prop :=
  decode 0x080308102#36 = .ok (.addR { tb := 0, rb := 3, ta := false, ra := 2, tt := false, rt := 1, v := false }) ∧
  decode 0xFFFD08104#36 = .ok (.addI { imm16 := 0xFFFD, ta := false, ra := 2, tt := false, rt := 1, v := false }) ∧
  decode 0x3E0000007#36 = .ok .sync ∧ decode 0x00000807A#36 = .ok .ret ∧ decode 0x000028000#36 = .ok (.brk 5) ∧
  decode 0xF00000260#36 = .ok (.cache { disp12 := 0, ta := false, ra := 0, dc3 := 0, ic3 := 2 }) ∧
  decode 0x060000002#36 = .error .unimplemented

/-! ## The machine -/

/-- Every step that gives a next state keeps the invariant. -/
def Obligations.StepKeepsInvariant : Prop := ∀ s t : State, s.Inv → step s = .next t → t.Inv

/-- The state after reset has the invariant. -/
def Obligations.ResetHasInvariant : Prop := State.reset.Inv

/-- What R660 fixes at reset: x0 zero, not waiting, the low PMSTACK entry 10, which is debug mode with interrupts
disabled, and every queue but 15 empty. -/
def Obligations.ResetState : Prop :=
  State.reset.reg 0#5 = 0#64 ∧ State.reset.waiting = false ∧ State.reset.pmstack.extractLsb' 0 4 = 10#4 ∧
  State.reset.mode = .debug ∧ State.reset.interruptsEnabled = false ∧
  ∀ q : BitVec 6, q ≠ 15#6 → State.reset.queue q = []

/-- A step at a state that is not waiting, without an enabled interrupt request and without pending modifiers, whose word
at ip decodes to an instruction that is no modifier, is that instruction's `exec`, then the environment's next input; if the fetch of the word is refused, so is the
step. What a fetch gives, at any nybble address (R36, R81 to R83, R91, R95, R102, R671): the nine nybbles from it on, or a refusal
where they cross 2^64, where a byte does not translate or is not backed, or where one is stale, that is stored to and not yet
invalidated (log 20); that each byte address is translated as a fetch is the model's choice (log 22). -/
def Obligations.StepRunsDecoded : Prop :=
  (∀ (s : State) (w : Code) (i : Instr), s.waiting = false → (s.irq = none ∨ s.interruptsEnabled = false) →
    s.mods = Mods.empty → s.fetchCode s.ip = .ok w → decode w = .ok i → isModifier i = false →
    step s = thenNextInput (exec i s)) ∧
  (∀ (s : State) (e : Refusal), s.waiting = false → (s.irq = none ∨ s.interruptsEnabled = false) → s.mods = Mods.empty →
    s.fetchCode s.ip = .error e → step s = .refused e) ∧
  ∀ (s : State) (n : Word), fetched s n (s.fetchCode n)

/-- A modifier word is one more word of the bundle: it changes nothing but the pending modifiers, the next word is read
nine nybbles on, and the bundle goes on there (R180); where the fetch of a word is refused the bundle is. -/
def Obligations.ModifierContinuesBundle : Prop :=
  (∀ (n : Nat) (s t : State) (w : Code) (m : Instr), s.fetchCode s.ipWord = .ok w → decode w = .ok m →
    isModifier m = true → exec m s = .next t →
    t = { s with mods := t.mods } ∧ t.ipWord = s.ipWord + 9#64 ∧ runBundle (n + 1) s = runBundle n t) ∧
  ∀ (n : Nat) (s : State) (e : Refusal), s.fetchCode s.ipWord = .error e → runBundle (n + 1) s = .refused e

/-- A word that decodes to nothing raises UnimplementedInstruction, and so does the vector half of the branch opcodes (R171 (a),
(d)), whatever modifiers stand before it (behind EXI, BRMOD and STRIDE words the model's choice, log 32); every exception takes
the trap sequence of BRK with its cause code (R612, R620: the spec's decision). -/
def Obligations.UndefinedWordRaises : Prop :=
  ∀ s : State,
    (∀ (n : Nat) (w : Code), s.fetchCode s.ipWord = .ok w → decode w = .error .unimplemented →
      nextWith (runBundle (n + 1) s) (raisedUnimplemented s)) ∧
    (∀ b : BitVec 3, nextWith (exec (.vectorBranch b) s) (raisedUnimplemented s)) ∧
    ∀ e : Exception, s.raise e = s.takeTrap (match e with
      | .unimplementedInstruction => s.cfg.causeUnimplemented
      | .boundsCheck => s.cfg.causeBoundsCheck
      | .privilegeViolation => s.cfg.causePrivilege)

/-- The boundary (R640, R528), whatever the word at ip is: an enabled request is taken, and ends a wait; a wait without
a request goes on; a masked request ends a wait, and the bundle runs; without a wait or a request the bundle runs. Then the
environment's next input comes (R57, R510, R91): the request, or none when no input is left; if it gives them, the low
QUEUE_WIDTH bits of the trace queue's values, at most QUEUE_DEPTH of them, and what the devices' bytes read, an unlisted one
0 (the last two in this form by logs 10 and 37). -/
def Obligations.BoundaryOfAStep : Prop :=
  ∀ s : State,
    (s.irq = none → s.waiting = false → step s = thenNextInput (runBundle maxBundle s)) ∧
    (s.env = [] → s.nextInput = { s with irq := none }) ∧
    (∀ x rest, s.env = x :: rest → ∃ t, s.nextInput = t ∧
      t = { s with irq := x.irq, env := rest, queues := t.queues, device := t.device } ∧
      (x.trace = none → t.queues = s.queues) ∧
      (∀ l, x.trace = some l → ∀ q, t.queue q = if q = 15#6 then
        (l.map (fun w => BitVec.ofNat 64 (w.toNat % 2 ^ s.cfg.queueWidth))).take s.cfg.queueDepth else s.queue q) ∧
      (x.device = none → t.device = s.device) ∧
      (∀ l p, x.device = some l → s.isDevice p = true →
        ((∀ c ∈ l, c.1 ≠ p) → t.byteAt p = 0#8) ∧
        ∀ before b after, l = before ++ (p, b) :: after → (∀ c ∈ after, c.1 ≠ p) → t.byteAt p = b)) ∧
    (∀ c, s.irq = some c → s.interruptsEnabled = true →
      ∃ t, trapped (c.setWidth 64) { s with waiting := false } t ∧ step s = .next t.nextInput) ∧
    (s.irq = none → s.waiting = true → step s = .next s.nextInput) ∧
    (∀ c, s.irq = some c → s.interruptsEnabled = false →
      step s = thenNextInput (runBundle maxBundle { s with waiting := false }))

/-- No step changes the open parameters (R6). -/
def Obligations.StepKeepsParameters : Prop := ∀ s t : State, step s = .next t → t.cfg = s.cfg

/-- Memory changes, and devices are stored to, by the storing instructions only; no instruction changes what devices read. -/
def Obligations.OnlyStoresChangeMemory : Prop :=
  ∀ (i : Instr) (s t : State), exec i s = .next t →
    t.device = s.device ∧ (isStore i = false → t.mem = s.mem ∧ t.deviceOut = s.deviceOut)

/-- The mode, the interrupt enable and the exception registers change by traps and by BRK, CSRx, REX, RTE and PFI only: any
other instruction leaves PMSTACK, cause, badaddr, EIP, tvec and the semaphores as they are, or traps as R620 says. -/
def Obligations.OnlySystemControlChangesMode : Prop :=
  ∀ (i : Instr) (s t : State), isSystemControl i = false → exec i s = .next t →
    (t.pmstack = s.pmstack ∧ t.cause = s.cause ∧ t.badaddr = s.badaddr ∧ t.eip = s.eip ∧ t.tvec = s.tvec ∧
      t.sem = s.sem) ∨ ∃ code, trapped code s t

/-! ## Registers and operands -/

/-- x0 reads as zero and a write to it is discarded; any other register reads what was written; no write reaches a
second register (R31). -/
def Obligations.ZeroRegister : Prop :=
  ∀ (s : State) (r q : RegNo) (w : Word),
    s.reg 0#5 = 0#64 ∧ s.setReg 0#5 w = s ∧ (r ≠ 0#5 → (s.setReg r w).reg r = w) ∧
    (q ≠ r → (s.setReg r w).reg q = s.reg q)

/-- What a source operand is (R131 to R133): the scalar register, the element of the vector register, or the constant
{Ty2[0], R5}, sign-extended, zero-extended, or as a double with sign 0, exponent field 1020 + e and fraction s << 49. -/
def Obligations.OperandValues : Prop :=
  ∀ (s : State) (r : RegNo) (ty : BitVec 2) (e : Nat),
    s.srcA false r e = s.reg r ∧ s.srcA true r e = s.elem r e ∧
    (∀ k, s.srcSpec k 0#2 r e = s.reg r ∧ s.srcSpec k 1#2 r e = s.elem r e) ∧
    (2 ≤ ty.toNat →
      s.srcSpec .unsigned ty r e = BitVec.ofNat 64 (32 * (ty.toNat % 2) + r.toNat) ∧
      s.srcSpec .signed ty r e = BitVec.ofInt 64 ((r.toNat : Int) - 32 * ((ty.toNat % 2 : Nat) : Int)) ∧
      (s.srcSpec .float ty r e).toNat =
        (1020 + (4 * (ty.toNat % 2) + r.toNat / 8)) * 2 ^ 52 + (r.toNat % 8) * 2 ^ 49)

/-- What a modifier supplies (R130, R184, R186, R551, R332): without one, opC and opD are zero, and there is no mask and
no rounding mode; IMOD gives both operands, a constant read as the instruction reads constants, BTFLD gives them with
constants zero-extended (in a float instruction too: the model's choice, log 15), and each the mask where A[0] and the
rounding mode where A[1] is set; STRIDE the mask. -/
def Obligations.ModifierOperands : Prop :=
  ∀ (s : State) (k : ConstKind) (e : Nat),
    (s.mods.tail = none → s.opC k e = 0#64 ∧ s.opD k e = 0#64 ∧ s.mods.maskSel = none ∧ s.mods.rounding = none) ∧
    (∀ f, s.mods.tail = some (.imod f) →
      s.opC k e = s.srcSpec k f.tc f.rc e ∧ s.opD k e = s.srcSpec k f.td f.rd e) ∧
    (∀ f, s.mods.tail = some (.btfld f) →
      s.opC k e = s.srcSpec .unsigned f.tc f.rc e ∧ s.opD k e = s.srcSpec .unsigned f.td f.rd e) ∧
    (∀ f, s.mods.tail = some (.imod f) ∨ s.mods.tail = some (.btfld f) →
      s.mods.maskSel = (if f.a = 1#2 ∨ f.a = 3#2 then some (f.m3, f.z) else none) ∧
      s.mods.rounding = (if f.a = 2#2 ∨ f.a = 3#2 then some f.rm else none)) ∧
    (∀ f, s.mods.tail = some (.stride f) →
      s.mods.maskSel = (if f.a = 1#2 ∨ f.a = 3#2 then some (f.m3, f.z) else none) ∧ s.mods.rounding = none)

/-- The assembly of constants from EXI words (R156): none, the instruction's own constant; EXI0, 38 bits sign-extended;
EXI0 and EXI1, the low 64 bits of the assembled value, with or without EXI2. -/
def Obligations.ConstantAssembly : Prop :=
  ∀ (m : Mods) (base : Word) (c : BitVec 10) (e0 e1 : BitVec 28),
    (m.exi0 = none → m.imm base c = base) ∧
    (m.exi0 = some e0 → m.exi1 = none →
      (m.imm base c).toInt = (if e0.toNat < 2 ^ 27 then ((e0.toNat * 2 ^ 10 + c.toNat : Nat) : Int)
        else ((e0.toNat * 2 ^ 10 + c.toNat : Nat) : Int) - 2 ^ 38)) ∧
    (m.exi0 = some e0 → m.exi1 = some e1 →
      (m.imm base c).toNat = (e1.toNat * 2 ^ 38 + e0.toNat * 2 ^ 10 + c.toNat) % 2 ^ 64)

/-- Displacements of loads and stores (R158): without modifiers the field sign-extended; with STRIDE its Const14 above the
field, sign-extended; with EXI words theirs, before a STRIDE word too (the last is the model's choice, log 14). -/
def Obligations.Displacements : Prop :=
  ∀ (m : Mods) (c12 : BitVec 12) (c11 : BitVec 11),
    (m.exi0 = none → (∀ f, m.tail ≠ some (.stride f)) → (m.disp c12).toInt = c12.toInt ∧ (m.disp c11).toInt = c11.toInt) ∧
    (∀ f, m.exi0 = none → m.tail = some (.stride f) →
      (m.disp c12).toInt = f.c14.toInt * 2 ^ 12 + c12.toNat ∧ (m.disp c11).toInt = f.c14.toInt * 2 ^ 11 + c11.toNat) ∧
    (∀ e0, m.exi0 = some e0 →
      m.disp c12 = m.imm 0#64 (c12.extractLsb' 0 10) ∧ m.disp c11 = m.imm 0#64 (c11.extractLsb' 0 10))

/-! ## Modifier words -/

/-- Each modifier word, where the bundle grammar admits it, records its fields and nothing else; anywhere else it is
refused (R180, R182). The modifier opcodes without a described effect are refused (R135, R139, R189, R190). -/
def Obligations.ModifiersRecordOrRefuse : Prop :=
  ∀ (s : State) (p : BitVec 28) (fi : ImodF) (fb : BrmodF) (fs : StrideF),
    (s.mods = Mods.empty → exec (.exi0 p) s = .next { s with mods := { Mods.empty with exi0 := some p } }) ∧
    (s.mods ≠ Mods.empty → exec (.exi0 p) s = .refused .malformedBundle) ∧
    (s.mods.exi0.isSome = true → s.mods.exi1 = none → s.mods.tail = none →
      exec (.exi1 p) s = .next { s with mods := { s.mods with exi1 := some p } }) ∧
    (s.mods.exi0 = none ∨ s.mods.exi1.isSome = true ∨ s.mods.tail.isSome = true →
      exec (.exi1 p) s = .refused .malformedBundle) ∧
    (s.mods.exi1.isSome = true → s.mods.exi2 = none → s.mods.tail = none →
      exec (.exi2 p) s = .next { s with mods := { s.mods with exi2 := some p } }) ∧
    (s.mods.exi1 = none ∨ s.mods.exi2.isSome = true ∨ s.mods.tail.isSome = true →
      exec (.exi2 p) s = .refused .malformedBundle) ∧
    (s.mods.tail = none →
      exec (.imod fi) s = .next { s with mods := { s.mods with tail := some (.imod fi) } } ∧
      exec (.btfld fi) s = .next { s with mods := { s.mods with tail := some (.btfld fi) } } ∧
      exec (.brmod fb) s = .next { s with mods := { s.mods with tail := some (.brmod fb) } } ∧
      exec (.stride fs) s = .next { s with mods := { s.mods with tail := some (.stride fs) } }) ∧
    (s.mods.tail.isSome = true →
      exec (.imod fi) s = .refused .malformedBundle ∧ exec (.btfld fi) s = .refused .malformedBundle ∧
      exec (.brmod fb) s = .refused .malformedBundle ∧ exec (.stride fs) s = .refused .malformedBundle) ∧
    ∀ i ∈ ([.exi3, .exi4, .unnamed5B, .vectorHalf] : List Instr), exec i s = .refused .undescribedModifier

/-- No instruction executes under a modifier it does not take: EXI words before an instruction outside R183's list, BRMOD
before no branch, STRIDE before no vector load or store. The only next state is UnimplementedInstruction's, of the words
that raise it by themselves (that these raise before the modifiers are checked is the model's choice, log 32). CACHE counts as
outside R183's list (the model's choice, log 40). -/
def Obligations.MisplacedModifiersDoNothing : Prop :=
  ∀ (i : Instr) (s t : State), isModifier i = false → exec i s = .next t →
    (s.mods.exi0.isSome = true ∧ takesExi i = false) ∨ (∃ f, s.mods.tail = some (.brmod f) ∧ takesBrmod i = false) ∨
      (∃ f, s.mods.tail = some (.stride f) ∧ takesStride i = false) →
    raisedUnimplemented s t

/-! ## Integer instructions -/

/-- The one-source integer instructions (R201, R216 to R218, R258 to R260, R292, R302, R310, R311): signed readings are
`toInt`, SQRT is the floor of the root of the unsigned value, CNTLZ of zero is 64.
Type codes that do not fit raise (R172): the model's choice (log 13). -/
def Obligations.UnaryInteger : Prop :=
  unaryForm .abs (fun a => if a.toInt < 0 then -a else a) ∧
  unaryForm .nabs (fun a => if a.toInt < 0 then a else -a) ∧
  unaryForm .neg (fun a => BitVec.ofInt 64 (0 - a.toInt)) ∧
  unaryForm .com (fun a => ~~~a) ∧
  unaryForm .notL (fun a => truth (a = 0#64)) ∧
  unaryForm .cntlz (fun a => BitVec.ofNat 64 (if a = 0#64 then 64 else 63 - a.toNat.log2)) ∧
  unaryForm .cntlo (fun a => BitVec.ofNat 64 (if ~~~a = 0#64 then 64 else 63 - (~~~a).toNat.log2)) ∧
  unaryForm .cntpop (fun a => BitVec.ofNat 64 (Finset.card {i : Fin 64 | a.getLsbD i.val = true})) ∧
  unaryForm .sqrt (fun a => BitVec.ofNat 64 (Nat.sqrt a.toNat)) ∧
  unaryForm .zxb (fun a => BitVec.ofNat 64 (a.toNat % 2 ^ 8)) ∧
  unaryForm .zxw (fun a => BitVec.ofNat 64 (a.toNat % 2 ^ 16)) ∧
  unaryForm .zxt (fun a => BitVec.ofNat 64 (a.toNat % 2 ^ 32)) ∧
  unaryForm .sxb (fun a => BitVec.ofInt 64 (a.setWidth 8).toInt) ∧
  unaryForm .sxw (fun a => BitVec.ofInt 64 (a.setWidth 16).toInt) ∧
  unaryForm .sxt (fun a => BitVec.ofInt 64 (a.setWidth 32).toInt)

/-- The two-source arithmetic instructions (R203, R221, R223, R225, R226, R250, R251, R253, R254, R256, R293, R322): sums
and products wrap; DIF is the true distance; division truncates toward zero and its corners are the parameter's; a six-bit
constant is zero-extended for MULU, DIVU and MULF, else, for REMU too, sign-extended (R132).
Type codes that do not fit raise (R172): the model's choice (log 13). -/
def Obligations.BinaryArithmetic : Prop :=
  binaryForm .addR .signed (fun a b => BitVec.ofInt 64 (a.toInt + b.toInt)) ∧
  binaryForm .sub .signed (fun a b => BitVec.ofInt 64 (a.toInt - b.toInt)) ∧
  binaryForm .mulR .signed (fun a b => BitVec.ofInt 64 (a.toInt * b.toInt)) ∧
  binaryForm .muluR .unsigned (fun a b => BitVec.ofNat 64 (a.toNat * b.toNat)) ∧
  binaryForm .mulfR .unsigned (fun a b => BitVec.ofNat 64 ((a.toNat % 2 ^ 24) * (b.toNat % 2 ^ 16))) ∧
  binaryForm .mulfR0D .unsigned (fun a b => BitVec.ofNat 64 ((a.toNat % 2 ^ 24) * (b.toNat % 2 ^ 16))) ∧
  binaryForm .divR .signed (signedQuotient .div) ∧
  binaryForm .divuR .unsigned (unsignedQuotient .divu) ∧
  binaryForm .remR .signed signedRemainder ∧
  binaryForm .remuR .signed unsignedRemainder ∧
  binaryForm .dif .signed (fun a b => BitVec.ofNat 64 (a.toInt - b.toInt).natAbs) ∧
  binaryForm .min .signed (fun a b => if a.toInt < b.toInt then a else b) ∧
  binaryForm .max .signed (fun a b => if b.toInt < a.toInt then a else b)

/-- The two-source logic, shift, permute and search instructions (R206, R207, R208, R264, R277, R278, R295, R297, R312);
`matrixMulOr`, `matrixMulXor`, `permuteBytes` and `firstField?` are characterised by WordFunctions.
Type codes that do not fit raise (R172): the model's choice (log 13). -/
def Obligations.BinaryLogicAndShift : Prop :=
  binaryForm .andR .signed (fun a b => a &&& b) ∧
  binaryForm .nand .signed (fun a b => ~~~(a &&& b)) ∧
  binaryForm .nor .signed (fun a b => ~~~(a ||| b)) ∧
  binaryForm .xnor .signed (fun a b => ~~~(a ^^^ b)) ∧
  binaryForm .sll .unsigned (fun a b => BitVec.ofNat 64 (a.toNat * 2 ^ (b.toNat % 64))) ∧
  binaryForm .srl .unsigned (fun a b => BitVec.ofNat 64 (a.toNat / 2 ^ (b.toNat % 64))) ∧
  countForm .slli (fun a n => BitVec.ofNat 64 (a.toNat * 2 ^ n)) ∧
  countForm .srli (fun a n => BitVec.ofNat 64 (a.toNat / 2 ^ n)) ∧
  binaryForm .bmm .signed matrixMulOr ∧ binaryForm .morB .signed matrixMulOr ∧ binaryForm .mxorB .signed matrixMulXor ∧
  binaryForm .permR .signed permuteBytes ∧
  binaryForm .wydndxR .signed (fun a b => indexOrMinusOne (firstField? 16 4 a (b.setWidth 16))) ∧
  binaryForm .u21ndxR .signed (fun a b => indexOrMinusOne (firstField? 21 3 a (b.setWidth 21)))

/-- The two-source comparisons (R214, R267 to R275). SGT, SGTU, SLE and SLEU hold the fields of the SLT, SLTU, SGE and SGEU
word they assemble to (log 18). Type codes that do not fit raise (R172): the model's choice (log 13). -/
def Obligations.BinaryCompare : Prop :=
  binaryForm .cmp .signed (fun a b => if a.toInt < b.toInt then -1#64 else if a.toInt = b.toInt then 0#64 else 1#64) ∧
  binaryForm .seqR .signed (fun a b => truth (a = b)) ∧ binaryForm .sneR .signed (fun a b => truth (a ≠ b)) ∧
  binaryForm .sltR .signed (fun a b => truth (a.toInt < b.toInt)) ∧
  binaryForm .sltuR .unsigned (fun a b => truth (a.toNat < b.toNat)) ∧
  binaryForm .sge .signed (fun a b => truth (b.toInt ≤ a.toInt)) ∧
  binaryForm .sgeu .unsigned (fun a b => truth (b.toNat ≤ a.toNat)) ∧
  binaryForm .sgtR .signed (fun a b => truth (a.toInt < b.toInt)) ∧
  binaryForm .sgtuR .unsigned (fun a b => truth (a.toNat < b.toNat)) ∧
  binaryForm .sle .signed (fun a b => truth (b.toInt ≤ a.toInt)) ∧
  binaryForm .sleu .unsigned (fun a b => truth (b.toNat ≤ a.toNat)) ∧
  singleForm .sign (fun a => if a.toInt < 0 then -1#64 else if a.toInt = 0 then 0#64 else 1#64)

/-- The instructions with a third or fourth source (R220, R227 to R230, R257, R262, R265, R279, R288, R291, R301, R400).
`depositField`, `pairField`, `signField`, `findFirstOne` and `blendPixel` are characterised by FieldFunctions; FFO does not
use Rb, whose type code is ignored (log 17). Type codes that do not fit raise (R172): the model's choice (log 13). -/
def Obligations.ThreeAndFourSources : Prop :=
  ternaryForm .orR .signed .signed (fun a b c => a ||| b ||| c) ∧
  ternaryForm .xorR .signed .signed (fun a b c => a ^^^ b ^^^ c) ∧
  ternaryForm .eorR .signed .signed (fun a b c => a ^^^ b ^^^ c) ∧
  ternaryForm .mux .signed .signed (fun a b c => (a &&& b) ||| (~~~a &&& c)) ∧
  ternaryForm .ptrdif .signed .unsigned (fun a b c => BitVec.ofNat 64 ((a.toInt - b.toInt).natAbs / 2 ^ (c.toNat % 32))) ∧
  ternaryForm .sllp .unsigned .signed
    (fun a b c => BitVec.ofNat 64 ((a.toNat * 2 ^ 64 + c.toNat) * 2 ^ (b.toNat % 64) / 2 ^ 64)) ∧
  (∀ (f : ShiftF) (s : State), s.mods.fit .plain = true →
    elementwise s f.v f.tt (f.ta || isVec s.mods.rc.1) f.rt s.mods.maskSel
      (fun e => BitVec.ofNat 64
        (((s.srcA f.ta f.ra e).toNat * 2 ^ 64 + (s.opC .signed e).toNat) * 2 ^ f.imm6.toNat / 2 ^ 64))
      (exec (.sllpi f) s)) ∧
  ternaryForm .blend .signed .signed blendPixel ∧
  quaternaryForm .dep .signed .unsigned (fun a b c d => depositField a b (c.setWidth 6) (d.setWidth 6)) ∧
  quaternaryForm .ext .signed .unsigned
    (fun a b c d => signField (pairField a b (c.setWidth 6) (d.setWidth 6)) (d.setWidth 6)) ∧
  quaternaryForm .extu .signed .unsigned (fun a b c d => pairField a b (c.setWidth 6) (d.setWidth 6)) ∧
  ternaryForm .sra .signed .unsigned (fun a b c => BitVec.ofNat 64 ((b.toNat * 2 ^ 64 + a.toNat) / 2 ^ (c.toNat % 64))) ∧
  ternaryForm .srlp .signed .unsigned (fun a b c => BitVec.ofNat 64 ((b.toNat * 2 ^ 64 + a.toNat) / 2 ^ (c.toNat % 64))) ∧
  (∀ (f : R2F) (s : State), s.mods.fit .plain = true →
    elementwise s f.v f.tt (f.ta || isVec s.mods.rc.1 || isVec s.mods.rd.1) f.rt s.mods.maskSel
      (fun e => findFirstOne (s.srcA f.ta f.ra e) ((s.opC .unsigned e).setWidth 6) ((s.opD .unsigned e).setWidth 6))
      (exec (.ffo f) s))

/-- The immediate arithmetic and logic instructions (R155, R202, R205, R222, R224 to R227, R252, R255, R256, R259, R261,
R294, R300, R322): the constant is zero-extended for MULU, MULF, DIVU, OR and XOR, one-extended for AND, else, for REMU too,
sign-extended (R155).
Type codes that do not fit raise (R172): the model's choice (log 13). -/
def Obligations.ImmediateArithmetic : Prop :=
  immediateForm .addI (fun c => BitVec.ofInt 64 c.toInt) (fun a i => BitVec.ofInt 64 (a.toInt + i.toInt)) ∧
  immediateForm .subf (fun c => BitVec.ofInt 64 c.toInt) (fun a i => BitVec.ofInt 64 (i.toInt - a.toInt)) ∧
  singleForm .negSubf (fun a => BitVec.ofInt 64 (0 - a.toInt)) ∧
  immediateForm .mulI (fun c => BitVec.ofInt 64 c.toInt) (fun a i => BitVec.ofInt 64 (a.toInt * i.toInt)) ∧
  immediateForm .muluI (fun c => BitVec.ofNat 64 c.toNat) (fun a i => BitVec.ofNat 64 (a.toNat * i.toNat)) ∧
  immediateForm .mulfI (fun c => BitVec.ofNat 64 c.toNat)
    (fun a i => BitVec.ofNat 64 ((a.toNat % 2 ^ 24) * (i.toNat % 2 ^ 16))) ∧
  immediateForm .divI (fun c => BitVec.ofInt 64 c.toInt) (signedQuotient .div) ∧
  immediateForm .divr (fun c => BitVec.ofInt 64 c.toInt) (fun a i => signedQuotient .divr i a) ∧
  immediateForm .divuI (fun c => BitVec.ofNat 64 c.toNat) (unsignedQuotient .divu) ∧
  immediateForm .remI (fun c => BitVec.ofInt 64 c.toInt) signedRemainder ∧
  immediateForm .remuI (fun c => BitVec.ofInt 64 c.toInt) unsignedRemainder ∧
  immediateForm .andI (fun c => BitVec.ofNat 64 (2 ^ 64 - 2 ^ 16 + c.toNat)) (fun a i => a &&& i) ∧
  immediateForm .orI (fun c => BitVec.ofNat 64 c.toNat) (fun a i => a ||| i) ∧
  immediateForm .xorI (fun c => BitVec.ofNat 64 c.toNat) (fun a i => a ^^^ i) ∧
  immediateForm .eorI (fun c => BitVec.ofNat 64 c.toNat) (fun a i => a ^^^ i)

/-- The immediate comparisons, permutation and searches (R155, R263, R267 to R272, R295, R297).
Type codes that do not fit raise (R172): the model's choice (log 13). -/
def Obligations.ImmediateCompareAndSearch : Prop :=
  immediateForm .seqI (fun c => BitVec.ofInt 64 c.toInt) (fun a i => truth (a = i)) ∧
  immediateForm .sneI (fun c => BitVec.ofInt 64 c.toInt) (fun a i => truth (a ≠ i)) ∧
  immediateForm .sltI (fun c => BitVec.ofInt 64 c.toInt) (fun a i => truth (a.toInt < i.toInt)) ∧
  immediateForm .sgtI (fun c => BitVec.ofInt 64 c.toInt) (fun a i => truth (i.toInt < a.toInt)) ∧
  immediateForm .sltuI (fun c => BitVec.ofNat 64 c.toNat) (fun a i => truth (a.toNat < i.toNat)) ∧
  immediateForm .sgtuI (fun c => BitVec.ofNat 64 c.toNat) (fun a i => truth (i.toNat < a.toNat)) ∧
  immediateForm .permI (fun c => BitVec.ofNat 64 c.toNat) permuteBytes ∧
  immediateForm .wydndxI (fun c => BitVec.ofNat 64 c.toNat)
    (fun a i => indexOrMinusOne (firstField? 16 4 a (i.setWidth 16))) ∧
  immediateForm .u21ndxI (fun c => BitVec.ofNat 64 c.toNat)
    (fun a i => indexOrMinusOne (firstField? 21 3 a (i.setWidth 21)))

/-- BYTNDX (R211 to R213): per register or per element the first byte equal to the key, else -1; with a vector source and
a scalar target the first byte of all active elements below VL. Type codes that fit none of these raise
UnimplementedInstruction, of R172's two treatments the model's choice (log 13). -/
def Obligations.ByteIndex : Prop :=
  ∀ (s : State),
    (∀ f : BytRF, s.mods.fit .plain = true → f.v = false → f.tt2 = 0#2 → isVec f.ta2 = false → isVec f.tb = false →
      nextWith (exec (.bytndxR f) s) (wroteReg f.rt
        (indexOrMinusOne (firstField? 8 8 (s.srcSpec .signed f.ta2 f.ra 0) ((s.srcSpec .signed f.tb f.rb 0).setWidth 8))) s)) ∧
    (∀ f : BytIF, s.mods.fit .extended = true → f.v = false → f.tt2 = 0#2 → isVec f.ta2 = false →
      nextWith (exec (.bytndxI f) s) (wroteReg f.rt (indexOrMinusOne (firstField? 8 8 (s.srcSpec .signed f.ta2 f.ra 0)
        ((s.mods.imm (BitVec.ofNat 64 f.imm10.toNat) f.imm10).setWidth 8))) s)) ∧
    (∀ f : BytRF, s.mods.fit .plain = true → f.v = true → f.tt2 = 1#2 → s.vl.toNat ≤ s.cfg.vlmax →
      nextWith (exec (.bytndxR f) s) (wroteElems f.rt (masked s s.mods.maskSel (fun e => indexOrMinusOne
        (firstField? 8 8 (s.srcSpec .signed f.ta2 f.ra e) ((s.srcSpec .signed f.tb f.rb e).setWidth 8)))) s)) ∧
    (∀ f : BytIF, s.mods.fit .extended = true → f.v = true → f.tt2 = 1#2 → s.vl.toNat ≤ s.cfg.vlmax →
      nextWith (exec (.bytndxI f) s) (wroteElems f.rt (masked s s.mods.maskSel (fun e => indexOrMinusOne
        (firstField? 8 8 (s.srcSpec .signed f.ta2 f.ra e)
          ((s.mods.imm (BitVec.ofNat 64 f.imm10.toNat) f.imm10).setWidth 8)))) s)) ∧
    (∀ (f : BytRF) (w : Word), s.mods.fit .plain = true → f.v = true → f.tt2 = 0#2 → f.ta2 = 1#2 →
      s.vl.toNat ≤ s.cfg.vlmax →
      firstByteOf s s.mods.maskSel f.ra (fun e => (s.srcSpec .signed f.tb f.rb e).setWidth 8) w →
      nextWith (exec (.bytndxR f) s) (wroteReg f.rt w s)) ∧
    (∀ (f : BytIF) (w : Word), s.mods.fit .extended = true → f.v = true → f.tt2 = 0#2 → f.ta2 = 1#2 →
      s.vl.toNat ≤ s.cfg.vlmax →
      firstByteOf s s.mods.maskSel f.ra (fun _ => (s.mods.imm (BitVec.ofNat 64 f.imm10.toNat) f.imm10).setWidth 8) w →
      nextWith (exec (.bytndxI f) s) (wroteReg f.rt w s)) ∧
    (∀ f : BytRF, s.mods.fit .plain = true →
      (f.v = true → f.tt2 = 1#2 ∨ f.tt2 = 0#2 ∧ f.ta2 = 1#2 → s.cfg.vlmax < s.vl.toNat →
        exec (.bytndxR f) s = .refused .vectorLength) ∧
      (f.v = false ∧ (f.tt2 ≠ 0#2 ∨ f.ta2 = 1#2 ∨ f.tb = 1#2) ∨ f.v = true ∧ (2 ≤ f.tt2.toNat ∨ f.tt2 = 0#2 ∧ f.ta2 ≠ 1#2) →
        nextWith (exec (.bytndxR f) s) (raisedUnimplemented s))) ∧
    (∀ f : BytIF, s.mods.fit .extended = true →
      (f.v = true → f.tt2 = 1#2 ∨ f.tt2 = 0#2 ∧ f.ta2 = 1#2 → s.cfg.vlmax < s.vl.toNat →
        exec (.bytndxI f) s = .refused .vectorLength) ∧
      (f.v = false ∧ (f.tt2 ≠ 0#2 ∨ f.ta2 = 1#2) ∨ f.v = true ∧ (2 ≤ f.tt2.toNat ∨ f.tt2 = 0#2 ∧ f.ta2 ≠ 1#2) →
        nextWith (exec (.bytndxI f) s) (raisedUnimplemented s)))

/-- The word functions: element (i, j) of a bit matrix product is the OR, or the exclusive OR, over k of (i, k) and (k, j)
(R207, R208); byte i of a permutation is the byte that three-bit field i selects (R263); a search gives the lowest number
of a field equal to the key, or none where no field is (R211, R295, R297). -/
def Obligations.WordFunctions : Prop :=
  (∀ (a b : Word), ∀ i < 8, ∀ j < 8,
    ((matrixMulOr a b).getLsbD (63 - 8 * i - j) = true ↔
      ∃ k < 8, a.getLsbD (63 - 8 * i - k) = true ∧ b.getLsbD (63 - 8 * k - j) = true) ∧
    ((matrixMulXor a b).getLsbD (63 - 8 * i - j) = true ↔
      Odd (Finset.card {k : Fin 8 | a.getLsbD (63 - 8 * i - k.val) = true ∧ b.getLsbD (63 - 8 * k.val - j) = true}))) ∧
  (∀ a : Word, matrixMulOr a 0x8040201008040201#64 = a ∧ matrixMulOr 0x8040201008040201#64 a = a) ∧
  (∀ (a p : Word), ∀ i < 8,
    (permuteBytes a p).extractLsb' (8 * i) 8 = a.extractLsb' (8 * (p.extractLsb' (3 * i) 3).toNat) 8) ∧
  (∀ (w count k : Nat) (a : Word) (key : BitVec w),
    (firstField? w count a key = some k ↔
      k < count ∧ a.extractLsb' (w * k) w = key ∧ ∀ j < k, a.extractLsb' (w * j) w ≠ key) ∧
    (firstField? w count a key = none ↔ ∀ j < count, a.extractLsb' (w * j) w ≠ key)) ∧
  (∀ k : Nat, indexOrMinusOne (some k) = BitVec.ofNat 64 k) ∧ indexOrMinusOne none = 0xFFFFFFFFFFFFFFFF#64

/-- The bit fields of w + 1 bits at `off` (R219, R220, R228 to R230) and the colour blend (R400). -/
def Obligations.FieldFunctions : Prop :=
  (∀ (a b : Word) (off w : BitVec 6), ∀ i < 64,
    (depositField a b off w).getLsbD i =
      (if off.toNat ≤ i ∧ i ≤ off.toNat + w.toNat then b.getLsbD (i - off.toNat) else a.getLsbD i) ∧
    (pairField a b off w).getLsbD i = (decide (i ≤ w.toNat) &&
      (if off.toNat + i < 64 then a.getLsbD (off.toNat + i) else b.getLsbD (off.toNat + i - 64)))) ∧
  (∀ (x : Word) (w : BitVec 6), ∀ i < 64, (signField x w).getLsbD i = x.getLsbD (min i w.toNat)) ∧
  (∀ (a : Word) (off w : BitVec 6) (k : Nat), k ≤ w.toNat → a.getLsbD (off.toNat + k) = true →
    (∀ j, k < j → j ≤ w.toNat → a.getLsbD (off.toNat + j) = false) → findFirstOne a off w = BitVec.ofNat 64 k) ∧
  (∀ (a : Word) (off w : BitVec 6), (∀ j ≤ w.toNat, a.getLsbD (off.toNat + j) = false) → findFirstOne a off w = -1#64) ∧
  (∀ (a b c : Word),
    (∀ i < 3, ((blendPixel a b c).extractLsb' (8 * i) 8).toNat =
      ((a.extractLsb' (8 * i) 8).toNat * (c.toNat % 256) + (b.extractLsb' (8 * i) 8).toNat * (255 - c.toNat % 256)) / 256) ∧
    (blendPixel a b c).extractLsb' 24 8 = a.extractLsb' 24 8 ∧ (blendPixel a b c).extractLsb' 32 32 = 0#32)

/-! ## Floating point and graphics -/

/-- The float instructions that move or change the sign bit, and those that compare (R335 to R337, R339, R345, R346, R350,
R352 to R355, R276). `fpCompare` is the model's reading of `fp.cmp` as the binary64 order (PRESUMED, log 9). FSGT and FSGE
hold the fields of the FSLT and FSLE word they assemble to, with Ra and Rb exchanged (log 18).
Type codes that do not fit raise (R172): the model's choice (log 13). -/
def Obligations.FloatSignAndCompare : Prop :=
  unaryForm .fmov (fun a => a) ∧
  unaryForm .fabs (fun a => BitVec.ofNat 64 (a.toNat % 2 ^ 63)) ∧
  unaryForm .dfabs (fun a => BitVec.ofNat 64 (a.toNat % 2 ^ 63)) ∧
  unaryForm .fnabs (fun a => BitVec.ofNat 64 (a.toNat % 2 ^ 63 + 2 ^ 63)) ∧
  unaryForm .fneg (fun a => BitVec.ofNat 64 (a.toNat + 2 ^ 63)) ∧
  binaryForm .fmin .float (fun a b => if fpCompare a b = .lt then a else b) ∧
  binaryForm .fmax .float (fun a b => if fpCompare a b = .gt then a else b) ∧
  binaryForm .fcmp .float fpCompareWord ∧
  binaryForm .fcmpb .float fpCompareBits ∧
  binaryForm .fseq .float (fun a b => truth (fpCompare a b = .eq)) ∧
  binaryForm .fsne .float (fun a b => truth (fpCompare a b ≠ .eq)) ∧
  binaryForm .fslt .float (fun a b => truth (fpCompare a b = .lt)) ∧
  binaryForm .fsgt .float (fun a b => truth (fpCompare a b = .lt)) ∧
  binaryForm .fsle .float (fun a b => truth (fpCompare a b = .lt ∨ fpCompare a b = .eq)) ∧
  binaryForm .fsge .float (fun a b => truth (fpCompare a b = .lt ∨ fpCompare a b = .eq)) ∧
  singleForm .signF (fun a => fpCompareWord a 0#64)

/-- The float instructions whose result is the oracle's, under the rounding mode of the modifier or the default (R332,
R338, R340 to R344): they complete with whatever value the oracle gives (log 8).
Type codes that do not fit raise (R172): the model's choice (log 13). -/
def Obligations.FloatArithmetic : Prop :=
  (∀ (f : R1F) (s : State), s.mods.fit .plain = true →
    elementwise s f.v f.tt f.ta f.rt (some (f.m3, f.z)) (fun e => Config.fpSqrt s.mods.rounding (s.srcA f.ta f.ra e))
      (exec (.fsqrt f) s)) ∧
  (∀ (f : R2F) (s : State), s.mods.fit .plain = true →
    elementwise s f.v f.tt (f.ta || isVec f.tb) f.rt s.mods.maskSel
      (fun e => Config.fpAdd s.mods.rounding (s.srcA f.ta f.ra e) (s.srcSpec .float f.tb f.rb e)) (exec (.fadd f) s) ∧
    elementwise s f.v f.tt (f.ta || isVec f.tb) f.rt s.mods.maskSel
      (fun e => Config.fpSub s.mods.rounding (s.srcA f.ta f.ra e) (s.srcSpec .float f.tb f.rb e)) (exec (.fsub f) s) ∧
    elementwise s f.v f.tt (f.ta || isVec f.tb) f.rt s.mods.maskSel
      (fun e => Config.fpMul s.mods.rounding (s.srcA f.ta f.ra e) (s.srcSpec .float f.tb f.rb e)) (exec (.fmul f) s) ∧
    elementwise s f.v f.tt (f.ta || isVec f.tb) f.rt s.mods.maskSel
      (fun e => Config.fpDiv s.mods.rounding (s.srcA f.ta f.ra e) (s.srcSpec .float f.tb f.rb e)) (exec (.fdiv f) s) ∧
    elementwise s f.v f.tt (f.ta || isVec f.tb || isVec s.mods.rc.1 || isVec s.mods.rd.1) f.rt s.mods.maskSel
      (fun e => Config.fpFdp s.mods.rounding (s.srcA f.ta f.ra e) (s.srcSpec .float f.tb f.rb e) (s.opC .float e)
        (s.opD .float e)) (exec (.fdp f) s))

/-- The order of doubles as the model reads it (PRESUMED binary64, log 9) and the bits of FCMPB (R351): a NaN is unordered
with everything; two numbers are equal where their values are, so both zeros are; less and greater mirror each other; the
order is transitive; the sign and then the magnitude decide. A NaN has exponent field 2047 and a fraction that is not zero. -/
def Obligations.FloatOrder : Prop :=
  let nan := fun x : Word => x.toNat / 2 ^ 52 % 2048 = 2047 ∧ x.toNat % 2 ^ 52 ≠ 0
  (∀ a b : Word, (fpCompare a b = .unordered ↔ nan a ∨ nan b) ∧
    (fpCompare a b = .lt ↔ fpCompare b a = .gt) ∧ (fpCompare a b = .eq ↔ fpCompare b a = .eq)) ∧
  (∀ a b c : Word, fpCompare a b = .lt → fpCompare b c = .lt → fpCompare a c = .lt) ∧
  (∀ a b : Word, ¬ nan a → ¬ nan b →
    (fpCompare a b = .eq ↔ a = b ∨ a.toNat % 2 ^ 63 = 0 ∧ b.toNat % 2 ^ 63 = 0) ∧
    (a.msb = false → b.msb = false → (fpCompare a b = .lt ↔ a.toNat < b.toNat)) ∧
    (a.msb = true → b.msb = true → (fpCompare a b = .lt ↔ b.toNat < a.toNat)) ∧
    (a.msb = true → b.msb = false → (fpCompare a b = .lt ↔ ¬ (a.toNat = 2 ^ 63 ∧ b.toNat = 0))) ∧
    (a.msb = false → b.msb = true → fpCompare a b ≠ .lt)) ∧
  (∀ a b : Word, ∀ i < 64, (fpCompareBits a b).getLsbD i = true ↔
    (i = 0 ∧ fpCompare a b = .eq) ∨ ((i = 1 ∨ i = 63) ∧ fpCompare a b = .lt) ∨
    (i = 2 ∧ (fpCompare a b = .lt ∨ fpCompare a b = .eq)) ∨
    (i = 3 ∧ fpCompare a b ≠ .unordered ∧ a.toNat % 2 ^ 63 < b.toNat % 2 ^ 63) ∨
    (i = 4 ∧ fpCompare a b = .unordered) ∨ (i = 8 ∧ fpCompare a b ≠ .eq) ∨
    (i = 9 ∧ (fpCompare a b = .gt ∨ fpCompare a b = .eq)) ∨ (i = 10 ∧ fpCompare a b = .gt) ∨
    (i = 11 ∧ fpCompare a b ≠ .unordered ∧ b.toNat % 2 ^ 63 ≤ a.toNat % 2 ^ 63) ∨
    (i = 12 ∧ fpCompare a b ≠ .unordered)) ∧
  (∀ a b : Word, fpCompareWord a b =
    if fpCompare a b = .lt then 0xBFF0000000000000#64 else if fpCompare a b = .eq then 0#64
    else if fpCompare a b = .gt then 0x3FF0000000000000#64 else 0x4000000000000000#64)

/-- RD_COEFF and WR_COEFF (R402, R403): the coefficient that Ra numbers; the write gives the old value; numbers above 12 are
refused; the vector forms work element by element in ascending order (R550; the model's reading, log 23); misused type
codes raise (log 13); RD_COEFF ignores Rb with its type code (R403; log 17). -/
def Obligations.Coefficients : Prop :=
  ∀ (f : R2F) (s : State), s.mods.fit .plain = true →
    (f.v = false → f.tt = false → f.ta = false →
      (12 < (s.reg f.ra).toNat → exec (.rdCoeff f) s = .refused .coefficientIndex) ∧
      (∀ h : (s.reg f.ra).toNat < 13,
        nextWith (exec (.rdCoeff f) s) (wroteReg f.rt (s.coeff[(s.reg f.ra).toNat]) s) ∧
        (isVec f.tb = false →
          nextWith (exec (.wrCoeff f) s) (wroteReg f.rt (s.coeff[(s.reg f.ra).toNat])
            { s with coeff := s.coeff.set (s.reg f.ra).toNat (s.srcSpec .signed f.tb f.rb 0) })))) ∧
    (f.v = false → f.tt = false → f.ta = false → isVec f.tb = false → 12 < (s.reg f.ra).toNat →
      exec (.wrCoeff f) s = .refused .coefficientIndex) ∧
    (f.v = true → f.tt = true → s.vl.toNat ≤ s.cfg.vlmax →
      (∀ e < s.vl.toNat, s.active s.mods.maskSel e = true → (s.srcA f.ta f.ra e).toNat < 13) →
      nextWith (exec (.rdCoeff f) s) (wroteElems f.rt
        (masked s s.mods.maskSel (fun e => (s.coeff[(s.srcA f.ta f.ra e).toNat]?).getD 0#64)) s) ∧
      ∃ c : Nat → Vector Word 13, c 0 = s.coeff ∧
        (∀ e < s.vl.toNat, c (e + 1) = if s.active s.mods.maskSel e = true then
          (c e).setIfInBounds (s.srcA f.ta f.ra e).toNat (s.srcSpec .signed f.tb f.rb e) else c e) ∧
        nextWith (exec (.wrCoeff f) s) (wroteElems f.rt
          (masked s s.mods.maskSel (fun e => ((c e)[(s.srcA f.ta f.ra e).toNat]?).getD 0#64))
          { s with coeff := c s.vl.toNat })) ∧
    (f.v = true → f.tt = true → s.vl.toNat ≤ s.cfg.vlmax →
      (∃ e < s.vl.toNat, s.active s.mods.maskSel e = true ∧ 12 < (s.srcA f.ta f.ra e).toNat) →
      exec (.rdCoeff f) s = .refused .coefficientIndex ∧ exec (.wrCoeff f) s = .refused .coefficientIndex) ∧
    (f.v = true → f.tt = true → s.cfg.vlmax < s.vl.toNat →
      exec (.rdCoeff f) s = .refused .vectorLength ∧ exec (.wrCoeff f) s = .refused .vectorLength) ∧
    (f.v = true ∧ f.tt = false ∨ f.v = false ∧ (f.tt = true ∨ f.ta = true) →
      nextWith (exec (.rdCoeff f) s) (raisedUnimplemented s) ∧ nextWith (exec (.wrCoeff f) s) (raisedUnimplemented s)) ∧
    (f.v = false → isVec f.tb = true → nextWith (exec (.wrCoeff f) s) (raisedUnimplemented s))

/-! ## Memory -/

/-- The scalar loads (R85, R411 to R422): Ra plus displacement, or Ra plus Rb times the scale; 1, 2, 4 or 8 bytes, sign- or
zero-extended; reserved sizes are refused (R86), behind EXI words too in the displacement forms (R183). An access that is
misaligned where that is refused, or a byte of which does not translate or is neither memory's nor a device's, is refused and does
not trap (R88, R91, R102, R613).
Type codes that do not fit raise (R172): the model's choice (log 13). -/
def Obligations.Loads : Prop :=
  loadForm .ldb true 1 ∧ loadForm .ldw true 2 ∧ loadForm .ldt true 4 ∧ loadForm .ldo true 8 ∧
  loadForm .ldbz false 1 ∧ loadForm .ldwz false 2 ∧ loadForm .ldtz false 4 ∧ loadForm .ldoz false 8 ∧
  loadIndexedForm .ldbx true 1 ∧ loadIndexedForm .ldwx true 2 ∧ loadIndexedForm .ldtx true 4 ∧
  loadIndexedForm .ldox true 8 ∧ loadIndexedForm .ldbxz false 1 ∧ loadIndexedForm .ldwxz false 2 ∧
  loadIndexedForm .ldtxz false 4 ∧ loadIndexedForm .ldoxz false 8 ∧
  (∀ n : BitVec 4, n.toNat < 4 →
    loadForm (.ldx n) true (2 ^ n.toNat) ∧ loadForm (.ldxZ n) false (2 ^ n.toNat) ∧
    loadIndexedForm (.ldxX n) true (2 ^ n.toNat) ∧ loadIndexedForm (.ldxXZ n) false (2 ^ n.toNat)) ∧
  (∀ (n : BitVec 4) (f : LdF) (s : State), 4 ≤ n.toNat → s.mods.fit .extended = true →
    if f.tt = true ∨ f.ta = true then
      nextWith (exec (.ldx n f) s) (raisedUnimplemented s) ∧ nextWith (exec (.ldxZ n f) s) (raisedUnimplemented s)
    else exec (.ldx n f) s = .refused .reservedSize ∧ exec (.ldxZ n f) s = .refused .reservedSize) ∧
  (∀ (n : BitVec 4) (f : LdxF) (s : State), 4 ≤ n.toNat → s.mods.fit .plain = true →
    if f.tt = true ∨ f.ta = true ∨ isVec f.tb = true then
      nextWith (exec (.ldxX n f) s) (raisedUnimplemented s) ∧ nextWith (exec (.ldxXZ n f) s) (raisedUnimplemented s)
    else exec (.ldxX n f) s = .refused .reservedSize ∧ exec (.ldxXZ n f) s = .refused .reservedSize)

/-- The scalar stores (R85, R435 to R441): Ra plus displacement, or Ra plus the modifier's Rc times the scale; the low 1, 2,
4 or 8 bytes of Rb; reserved sizes are refused (R86), behind EXI words too in the displacement form (R183). Accesses are refused
as those of the loads are (R88, R91, R102, R613).
Type codes that do not fit raise (R172): the model's choice (log 13). -/
def Obligations.Stores : Prop :=
  storeForm .stb 1 ∧ storeForm .stw 2 ∧ storeForm .stt 4 ∧ storeForm .sto 8 ∧
  storeIndexedForm .stbx 1 ∧ storeIndexedForm .stwx 2 ∧ storeIndexedForm .sttx 4 ∧ storeIndexedForm .stox 8 ∧
  (∀ n : BitVec 4, n.toNat < 4 → storeForm (.stx n) (2 ^ n.toNat) ∧ storeIndexedForm (.stxX n) (2 ^ n.toNat)) ∧
  (∀ (n : BitVec 4) (f : StF) (s : State), 4 ≤ n.toNat → n ≠ 7#4 → s.mods.fit .extended = true →
    if f.ta = true ∨ isVec f.tb = true then nextWith (exec (.stx n f) s) (raisedUnimplemented s)
    else exec (.stx n f) s = .refused .reservedSize) ∧
  (∀ (n : BitVec 4) (f : StxF) (s : State), 4 ≤ n.toNat → n ≠ 7#4 → s.mods.fit .plain = true →
    if f.ta = true ∨ isVec f.tb = true ∨ isVec s.mods.rc.1 = true then nextWith (exec (.stxX n f) s) (raisedUnimplemented s)
    else exec (.stxX n f) s = .refused .reservedSize)

/-- STPTR (R446), the displacement and the indexed form, and STx and STxX with Func4 = 7, which are the same words: the octa,
then zero bytes at ea >> 8, ea >> 16, ... until the address is zero, in that order; where translation is the identity and
byte 0 is memory's, it ends up zero unless ea is 0. Where one of these accesses is not accessible it is refused (R88, R91, R102,
R613). Scales from 2 up are refused (R142). Type codes that do not fit raise (R172): the model's choice (log 13). -/
def Obligations.StorePointer : Prop :=
  (∀ (s : State) (f : StF), s.mods.fit .extended = true → f.ta = true ∨ isVec f.tb = true →
    nextWith (exec (.stptr f) s) (raisedUnimplemented s) ∧ nextWith (exec (.stx 7#4 f) s) (raisedUnimplemented s)) ∧
  (∀ (s : State) (f : StxF), s.mods.fit .plain = true →
    (f.ta = true ∨ isVec f.tb = true ∨ isVec s.mods.rc.1 = true →
      nextWith (exec (.stptrx f) s) (raisedUnimplemented s) ∧ nextWith (exec (.stxX 7#4 f) s) (raisedUnimplemented s)) ∧
    (f.ta = false → isVec f.tb = false → isVec s.mods.rc.1 = false → 2 ≤ f.sc.toNat →
      exec (.stptrx f) s = .refused .reservedScale ∧ exec (.stxX 7#4 f) s = .refused .reservedScale)) ∧
  ∀ (s : State) (ea data : Word) (o : Out),
    ((∃ f : StF, s.mods.fit .extended = true ∧ f.ta = false ∧ isVec f.tb = false ∧
        ea = s.reg f.ra + s.mods.disp f.disp11 ∧ data = s.srcSpec .signed f.tb f.rb 0 ∧
        (o = exec (.stptr f) s ∨ o = exec (.stx 7#4 f) s)) ∨
      (∃ f : StxF, s.mods.fit .plain = true ∧ f.ta = false ∧ isVec f.tb = false ∧ isVec s.mods.rc.1 = false ∧
        f.sc.toNat < 2 ∧ ea = s.reg f.ra + s.opC .signed 0 * (if f.sc = 1#3 then 8#64 else 1#64) ∧
        data = s.srcSpec .signed f.tb f.rb 0 ∧ (o = exec (.stptrx f) s ∨ o = exec (.stxX 7#4 f) s))) →
    let cards := ((List.range 8).filter (fun k => decide (ea >>> (8 * k) ≠ 0#64))).map (fun k => ea >>> (8 * (k + 1)))
    (accessible s .write ea 8 → (∀ a ∈ cards, accessible s .write a 1) →
      nextWith o (fun t => ∃ u v, storedBytes ea 8 data s u ∧ clearedCards 8 ea u v ∧
        t = { v with ip := s.ipNext, mods := Mods.empty } ∧
        (s.cfg.translate = .identity → s.isDevice 0 = false → ea ≠ 0#64 → t.byteAt 0 = 0#8))) ∧
    (¬ accessible s .write ea 8 ∨ (∃ a ∈ cards, ¬ accessible s .write a 1) →
      refusedFor s .write 8 o ea ∨ ∃ a ∈ cards, refusedFor s .write 1 o a)

/-- The instructions without a word in this version that the rules still describe (R430, R431, R443): LEA, its vector forms,
and the stores that zero their register, refused as other stores are. Type codes that do not fit raise (R172): the model's choice (log 13). -/
def Obligations.InstructionsWithoutWord : Prop :=
  (∀ (f : LeaF) (s : State), s.mods.fit .plain = true →
    if f.tt = true ∨ f.ta = true ∨ isVec f.tb = true then nextWith (exec (.lea f) s) (raisedUnimplemented s)
    else if 4 ≤ f.size.toNat then exec (.lea f) s = .refused .reservedSize
    else if 2 ≤ f.sc.toNat then exec (.lea f) s = .refused .reservedScale
    else nextWith (exec (.lea f) s) (wroteReg f.rt (f.disp + s.reg f.ra +
      s.srcSpec .signed f.tb f.rb 0 * (if f.sc = 1#3 then BitVec.ofNat 64 (2 ^ f.size.toNat) else 1#64)) s)) ∧
  (∀ (f : LeaVF) (s : State), s.mods.fit .plain = true →
    elementwise s true true false f.rt (some (f.m3, f.z))
      (fun x => f.disp + s.reg f.ra + (if f.indexed then s.elem f.rb x else s.reg f.rb * BitVec.ofNat 64 x))
      (exec (.leaV f) s)) ∧
  (∀ (f : StF) (s : State), s.mods.fit .extended = true →
    ∀ p ∈ ([(1, exec (.stbz f) s), (2, exec (.stwz f) s), (4, exec (.sttz f) s), (8, exec (.stoz f) s)] : List (Nat × Out)),
      if f.ta = true ∨ isVec f.tb = true then nextWith p.2 (raisedUnimplemented s)
      else
        let ea := s.reg f.ra + s.mods.disp f.disp11
        onAccesses s .write p.1 [ea] p.2 (nextWith p.2 (fun t => ∃ u,
          storedBytes ea p.1 (s.srcSpec .signed f.tb f.rb 0) s u ∧
          if f.tb = 0#2 then wroteReg f.rb 0#64 u t else onlyAdvanced u t)))

/-- CACHE (R96, R410): the data-cache enable bit by DC3; by IC3 the stored bytes of one line, or all, become visible to
fetches; reserved commands are refused; below machine mode the parameter sys_priv decides (R652). The line size is a
parameter of the model, and that a line's address is translated as a fetch, and CACHE refused where it does not translate, is the
model's choice (log 20). Type codes that do
not fit raise (R172): the model's choice (log 13). Behind EXI words CACHE is refused (log 40; MisplacedModifiersDoNothing). -/
def Obligations.CacheCommands : Prop :=
  ∀ (f : CacheF) (s : State), s.mods.fit .plain = true →
    if f.ta = true then nextWith (exec (.cache f) s) (raisedUnimplemented s) else
    (s.mode.index.val < 3 → s.cfg.sysPriv = .refuse → exec (.cache f) s = .refused .privilegeUnstated) ∧
    (s.mode.index.val < 3 → s.cfg.sysPriv = .trap →
      nextWith (exec (.cache f) s) (trapped (s.cfg.causePrivilege.setWidth 64) s)) ∧
    (3 ≤ s.mode.index.val ∨ s.cfg.sysPriv = .allow → 3 ≤ f.ic3.toNat ∨ 5 ≤ f.dc3.toNat →
      exec (.cache f) s = .refused .reservedCacheCommand) ∧
    (3 ≤ s.mode.index.val ∨ s.cfg.sysPriv = .allow → f.ic3.toNat < 3 → f.dc3.toNat < 5 →
      ∀ p, (f.ic3 = 1#3 → s.translate .fetch (s.reg f.ra + BitVec.ofInt 64 f.disp12.toInt) = .ok p) →
      nextWith (exec (.cache f) s) (fun t =>
        t = { s with
          dcacheEnable := t.dcacheEnable, stale := t.stale, ip := s.ipNext, mods := Mods.empty } ∧
        t.dcacheEnable = (if f.dc3 = 1#3 then true else if f.dc3 = 2#3 then false else s.dcacheEnable) ∧
        ∀ q, sparseGet false t.stale q = (sparseGet false s.stale q &&
          !(decide (f.ic3 = 2#3) || decide (f.ic3 = 1#3 ∧ q / s.cfg.icacheLine = p / s.cfg.icacheLine))))) ∧
    (3 ≤ s.mode.index.val ∨ s.cfg.sysPriv = .allow → f.ic3 = 1#3 → f.dc3.toNat < 5 →
      ∀ e, s.translate .fetch (s.reg f.ra + BitVec.ofInt 64 f.disp12.toInt) = .error e → exec (.cache f) s = .refused e)

/-- Which physical byte an address reaches (R91, R100 to R102): the byte of the same number, under the identity; what the
parameter gives for the address, the kind of access, the mode and the TLB, where it is open; or, by TLB, the first of the ways
0 to 3 whose entry va[23:14] is present (one of its bits 50:48 is set), has va[39:24] in bits 47:32 while va[63:40] is 0, and is
global (bit 55) or has the address space identifier in bits 63:56: it gives the byte {PPN, va[13:0]}, if its bit 50, 49 or 48
permits the read, the write or the fetch. No translation is refused, and so is a byte that is neither a device's nor memory's.
How G, ASID and the order of the ways enter is the model's choice (log 22). -/
def Obligations.AddressesReachMemory : Prop :=
  ∀ (s : State) (k : Access) (va : Word),
    let entry := fun way : Nat => s.tlbEntry (BitVec.ofNat 2 way) (va.extractLsb' 14 10)
    let hit := fun (asid : BitVec 8) (way : Nat) =>
      ((entry way).getLsbD 48 = true ∨ (entry way).getLsbD 49 = true ∨ (entry way).getLsbD 50 = true) ∧
      (entry way).extractLsb' 32 16 = va.extractLsb' 24 16 ∧ va.toNat < 2 ^ 40 ∧
      ((entry way).getLsbD 55 = true ∨ (entry way).extractLsb' 56 8 = asid)
    let permission := match k with | .read => 50 | .write => 49 | .fetch => 48
    let within := fun (l : List Region) (p : Nat) => ∃ r ∈ l, r.base ≤ p ∧ p < r.base + r.size
    (s.cfg.translate = .identity → s.translate k va = .ok va.toNat) ∧
    (∀ n, s.cfg.translate = .other n → s.translate k va =
      match Config.translateBy n va k s.mode s.tlb with | some p => .ok p.toNat | none => .error .noTranslation) ∧
    (∀ asid way, s.cfg.translate = .tlb asid → way < 4 → hit asid way → (∀ w < way, ¬ hit asid w) →
      s.translate k va = if (entry way).getLsbD permission = true
        then .ok ((entry way).toNat % 2 ^ 20 * 2 ^ 14 + va.toNat % 2 ^ 14) else .error .noTranslation) ∧
    (∀ asid, s.cfg.translate = .tlb asid → (∀ way < 4, ¬ hit asid way) → s.translate k va = .error .noTranslation) ∧
    (∀ e, s.translate k va = .error e → s.physical k va = .error e) ∧
    (∀ p, s.translate k va = .ok p →
      (within s.cfg.mmio p ∨ within s.cfg.backed p → s.physical k va = .ok p) ∧
      (¬ within s.cfg.mmio p → ¬ within s.cfg.backed p → s.physical k va = .error .unbackedAddress)) ∧
    ∀ p, s.isDevice p = true ↔ within s.cfg.mmio p

/-- Memory between a store and a load (R82, R92), translation being the identity: a load of the bytes just stored, none of
them a device's, gives their value; a load of bytes none of which was stored, or of devices' bytes, gives what it gave before;
a misaligned access is refused where the parameter says so (R88). -/
def Obligations.MemoryReadsLastStore : Prop :=
  ∀ (s t : State) (a w b : Word) (n m : Nat), s.cfg.translate = .identity → n ≤ 8 → s.memWrite a n w = .ok t →
    ((∀ i < n, s.isDevice (a + BitVec.ofNat 64 i).toNat = false) →
      t.memRead a n = .ok (BitVec.ofNat 64 (w.toNat % 2 ^ (8 * n)))) ∧
    ((∀ i < n, ∀ j < m, a + BitVec.ofNat 64 i ≠ b + BitVec.ofNat 64 j) → t.memRead b m = s.memRead b m) ∧
    ((∀ j < m, s.isDevice (b + BitVec.ofNat 64 j).toNat = true) → t.memRead b m = s.memRead b m) ∧
    (s.cfg.misaligned = .refuse → b.toNat % m ≠ 0 →
      s.memRead b m = .error .misaligned ∧ s.memWrite b m w = .error .misaligned)

/-! ## Flow control -/

/-- The conditional branches (R460 to R470). BGT, BLE, BGTU and BLEU hold the fields of the word they assemble to (log 18).
Type codes that do not fit raise (R172): the model's choice (log 13). -/
def Obligations.ConditionalBranches : Prop :=
  branchForm .beq .signed (fun a b => a = b) ∧ branchForm .bne .signed (fun a b => a ≠ b) ∧
  branchForm .blt .signed (fun a b => a.toInt < b.toInt) ∧ branchForm .bge .signed (fun a b => b.toInt ≤ a.toInt) ∧
  branchForm .bltu .unsigned (fun a b => a.toNat < b.toNat) ∧ branchForm .bgeu .unsigned (fun a b => b.toNat ≤ a.toNat) ∧
  branchForm .bbs .unsigned (fun a b => a.getLsbD (b.toNat % 64) = true) ∧
  branchForm .bgt .signed (fun a b => a.toInt < b.toInt) ∧ branchForm .ble .signed (fun a b => b.toInt ≤ a.toInt) ∧
  branchForm .bgtu .unsigned (fun a b => a.toNat < b.toNat) ∧ branchForm .bleu .unsigned (fun a b => b.toNat ≤ a.toNat)

/-- The jumps (R472, R473, R475, R477, R478): where they go, in nybbles, and what they link; JALR links its own address plus
twice Cnst5, and takes its own address as the base for a scalar x31 (R33); RET goes to x1.
Type codes that do not fit raise (R172): the model's choice (log 13). -/
def Obligations.Jumps : Prop :=
  ∀ (s : State) (c : BitVec 26) (r : BitVec 2), s.mods.fit .plain = true →
    nextWith (exec (.jal c r) s) (linkedAndJumped (BitVec.ofNat 5 r.toNat) s.ipNext (BitVec.ofNat 64 c.toNat) s) ∧
    nextWith (exec (.jmp c) s) (onlyJumped (BitVec.ofNat 64 c.toNat) s) ∧
    nextWith (exec (.bal c r) s)
      (linkedAndJumped (BitVec.ofNat 5 r.toNat) s.ipNext (BitVec.ofInt 64 (s.ipWord.toInt + c.toInt)) s) ∧
    nextWith (exec (.bra c) s) (onlyJumped (BitVec.ofInt 64 (s.ipWord.toInt + c.toInt)) s) ∧
    nextWith (exec (.bsr c) s) (linkedAndJumped 1#5 s.ipNext (BitVec.ofInt 64 (s.ipWord.toInt + c.toInt)) s) ∧
    nextWith (exec .ret s) (onlyJumped (s.reg 1#5) s) ∧
    ∀ f : JalrF,
      if isVec f.ta2 = true then nextWith (exec (.jalr f) s) (raisedUnimplemented s)
      else
        let base := if f.ta2 = 0#2 ∧ f.ra = 31#5 then s.ipWord else s.srcSpec .signed f.ta2 f.ra 0
        nextWith (exec (.jalr f) s) (linkedAndJumped (BitVec.ofNat 5 f.rt2.toNat)
          (s.ipWord + BitVec.ofNat 64 (2 * f.cnst5.toNat)) (BitVec.ofInt 64 (base.toInt + f.c14.toInt)) s)

/-- CHK (R479, R481): the checked value is Rc against Ra and the immediate, or Rb against Ra and Rc, signed; out of bounds
raises BoundsCheck; v = 1 is refused. Type codes that do not fit raise (R172): the model's choice (log 13). -/
def Obligations.BoundsChecks : Prop :=
  (∀ (f : ChkIF) (s : State), s.mods.fit .extended = true →
    if f.v = true then exec (.chkI f) s = .refused .vectorCheck
    else if f.ta = true ∨ isVec s.mods.rc.1 = true then nextWith (exec (.chkI f) s) (raisedUnimplemented s)
    else checked (boundsHold f.cn (s.reg f.ra) (s.opC .signed 0)
      (s.mods.imm (BitVec.ofInt 64 f.imm16.toInt) (f.imm16.extractLsb' 0 10))) s (exec (.chkI f) s)) ∧
  (∀ (f : ChkRF) (s : State), s.mods.fit .plain = true →
    if f.v = true then exec (.chkR f) s = .refused .vectorCheck
    else if f.ta = true ∨ isVec f.tb = true ∨ isVec s.mods.rc.1 = true then
      nextWith (exec (.chkR f) s) (raisedUnimplemented s)
    else checked (boundsHold f.cn (s.reg f.ra) (s.srcSpec .signed f.tb f.rb 0) (s.opC .signed 0)) s (exec (.chkR f) s))

/-! ## Exceptions and system instructions -/

/-- BRK (R500), in every mode: PMSTACK shifted left by four with 10 put in, cause[4] the constant, EIP the bundle's first
word, ip at tvec[4], nothing else; the mode is then debug with interrupts disabled. -/
def Obligations.BreakAndTrapSequence : Prop :=
  ∀ (s : State) (c : Byte),
    (s.mods.fit .plain = true → exec (.brk c) s = .next (s.takeTrap c)) ∧
    trapped (BitVec.ofNat 64 c.toNat) s (s.takeTrap c) ∧
    (s.takeTrap c).pmstack.toNat = (s.pmstack.toNat * 16 + 10) % 2 ^ 64 ∧
    (s.takeTrap c).mode = .debug ∧ (s.takeTrap c).interruptsEnabled = false

/-- RTE (R522): PMSTACK popped, semaphore 0 and the chosen one cleared, ip at EIP plus nine times the offset; Opt6 says
whether the offset and the semaphore number are immediates; nothing else changes.
Type codes that do not fit raise (R172): the model's choice (log 13). -/
def Obligations.ReturnFromException : Prop :=
  ∀ (f : SysF) (s : State), s.mods.fit .plain = true →
    let a := if f.rt6.getLsbD 0 then BitVec.ofNat 64 f.ra6.toNat else s.reg (f.ra6.setWidth 5)
    let b := if f.rt6.getLsbD 1 then BitVec.ofNat 64 f.rb6.toNat else s.reg (f.rb6.setWidth 5)
    if (f.rt6.getLsbD 0 = false ∧ f.ra6.msb = true) ∨ (f.rt6.getLsbD 1 = false ∧ f.rb6.msb = true) then
      nextWith (exec (.rte f) s) (raisedUnimplemented s)
    else
      nextWith (exec (.rte f) s) (fun t =>
        t = { s with
          pmstack := BitVec.ofNat 64 (s.pmstack.toNat / 16), sem := t.sem, ip := s.eip + 9#64 * a, mods := Mods.empty } ∧
        ∀ i < 64, t.sem.getLsbD i = (s.sem.getLsbD i && decide (i ≠ 0) && decide (i ≠ b.toNat % 64)))

/-- REX (R520): to a lower mode that is enabled, cause and badaddr copied, the current PMSTACK entry replaced, ip at the
mode's tvec, EIP unchanged; to a lower mode that is not enabled, no operation; otherwise refused. Which modes are enabled a table
of four bits says, or the open function of the state and the mode (the two forms of the parameter: log 38). -/
def Obligations.RedirectException : Prop :=
  ∀ (f : SysF) (s : State), s.mods.fit .plain = true →
    ((4 ≤ f.ra6.toNat % 8 ∨ s.mode.index.val ≤ f.ra6.toNat % 8) → exec (.rex f) s = .refused .rexTarget) ∧
    (∀ (m : Mode) (v : Vector Bool 4) (h : m.index.val < 4), s.cfg.rexEnabled = .table v → s.rexEnabled m = v[m.index.val]) ∧
    (∀ (m : Mode) (n : Nat), m ≠ .debug → s.cfg.rexEnabled = .other n → s.rexEnabled m = Config.rexEnabledBy n s m) ∧
    (∀ m : Mode, m.index.val = f.ra6.toNat % 8 → m.index.val < s.mode.index.val → m ≠ .debug →
      (s.rexEnabled m = false → nextWith (exec (.rex f) s) (onlyAdvanced s)) ∧
      (s.rexEnabled m = true → nextWith (exec (.rex f) s) (fun t =>
        t = { s with
          cause := s.cause.set m.index.val (s.cause[s.mode.index.val])
          badaddr := s.badaddr.set m.index.val (s.badaddr[s.mode.index.val])
          pmstack := t.pmstack, ip := s.tvec[m.index.val], mods := Mods.empty } ∧
        t.pmstack.extractLsb' 4 60 = s.pmstack.extractLsb' 4 60 ∧
        (s.cfg.wf = true → t.mode = m ∧ t.interruptsEnabled = false))))

/-- The CSR instructions (R501 to R503), whatever csr_map is. First a vector type code of Ra raises UnimplementedInstruction
(logs 13 and 32), but not in CSRR, which ignores it (log 17); then comes the access check; an unknown number raises; the old
value goes to Rt. A write that csr_map has raise raises PrivilegeViolation (log 39). Each register reads what was written to it,
a semaphore and the data-cache enable one bit, a CSR that nothing is known of the open function's value (log 1); a write changes
no other register that CSRs reach, but for the open one, which gives each of them the open function's value. It changes nothing
else: no general register, vector register, mask, queue, TLB entry or coefficient, neither ip nor memory. -/
def Obligations.ControlRegisters : Prop :=
  csrForm 0#2 .csrr ∧ csrForm 1#2 .csrw ∧ csrForm 2#2 .csrs ∧ csrForm 3#2 .csrc ∧ (∀ op2, csrForm op2 (.csrx op2)) ∧
  ∀ (s : State) (w : Word),
    (∀ r, ∃ t, s.csrWrite r w = t ∧ t = { s with
      pmstack := t.pmstack, eip := t.eip, vl := t.vl, sem := t.sem, dcacheEnable := t.dcacheEnable, cause := t.cause,
      badaddr := t.badaddr, tvec := t.tvec, csrs := t.csrs }) ∧
    (∀ r q, csrHolds r = true → csrHolds q = true → (s.csrWrite r w).csrRead q = if q = r then w else s.csrRead q) ∧
    (∀ r, csrHolds r = true → (s.csrWrite r w).dcacheEnable = s.dcacheEnable) ∧
    (∀ n, s.csrRead (.semaphore n) = (if s.sem.getLsbD n.toNat then 1#64 else 0#64) ∧
      (∀ m : BitVec 6, (s.csrWrite (.semaphore n) w).sem.getLsbD m.toNat =
        if m = n then w.getLsbD 0 else s.sem.getLsbD m.toNat) ∧
      (∀ q, csrHolds q = true → q ≠ .semaphores → (s.csrWrite (.semaphore n) w).csrRead q = s.csrRead q) ∧
      (s.csrWrite (.semaphore n) w).dcacheEnable = s.dcacheEnable) ∧
    s.csrRead .dcacheEnable = (if s.dcacheEnable then 1#64 else 0#64) ∧
    (s.csrWrite .dcacheEnable w).dcacheEnable = w.getLsbD 0 ∧
    (∀ q, csrHolds q = true → (s.csrWrite .dcacheEnable w).csrRead q = s.csrRead q) ∧
    ∀ n, s.csrRead (.other n) = Config.csrReadBy n s ∧
      (s.csrWrite (.other n) w).dcacheEnable = (Config.csrWriteBy n w s .dcacheEnable).getLsbD 0 ∧
      ∀ q, csrHolds q = true → (s.csrWrite (.other n) w).csrRead q =
        if ∃ m, q = .own m ∧ m ≠ n then s.csrRead q else Config.csrWriteBy n w s q

/-- The queue instructions (R510 to R514), the queue numbered by a register modulo 64 or by the immediate; a vector register
field raises (log 13). -/
def Obligations.Queues : Prop :=
  ∀ (f : SysF) (s : State), s.mods.fit .plain = true →
    (f.ra6.msb = false → f.rb6.msb = false →
      pushed ((s.reg (f.rb6.setWidth 5)).setWidth 6) (s.reg (f.ra6.setWidth 5)) s (exec (.push f) s)) ∧
    (f.ra6.msb = false → pushed f.rb6 (s.reg (f.ra6.setWidth 5)) s (exec (.pushi f) s)) ∧
    (f.ra6.msb = false → f.rt6.msb = false →
      popped ((s.reg (f.ra6.setWidth 5)).setWidth 6) (f.rt6.setWidth 5) s (exec (.pop f) s) ∧
      peeked ((s.reg (f.ra6.setWidth 5)).setWidth 6) (f.rt6.setWidth 5) s (exec (.peek f) s) ∧
      statRead ((s.reg (f.ra6.setWidth 5)).setWidth 6) (f.rt6.setWidth 5) s (exec (.stat f) s)) ∧
    (f.rt6.msb = false →
      popped f.ra6 (f.rt6.setWidth 5) s (exec (.popi f) s) ∧ peeked f.ra6 (f.rt6.setWidth 5) s (exec (.peeki f) s) ∧
      statRead f.ra6 (f.rt6.setWidth 5) s (exec (.stati f) s)) ∧
    (f.ra6.msb = true ∨ f.rb6.msb = true → nextWith (exec (.push f) s) (raisedUnimplemented s)) ∧
    (f.ra6.msb = true → nextWith (exec (.pushi f) s) (raisedUnimplemented s)) ∧
    (f.ra6.msb = true ∨ f.rt6.msb = true → nextWith (exec (.pop f) s) (raisedUnimplemented s) ∧
      nextWith (exec (.peek f) s) (raisedUnimplemented s) ∧ nextWith (exec (.stat f) s) (raisedUnimplemented s)) ∧
    (f.rt6.msb = true → nextWith (exec (.popi f) s) (raisedUnimplemented s) ∧
      nextWith (exec (.peeki f) s) (raisedUnimplemented s) ∧ nextWith (exec (.stati f) s) (raisedUnimplemented s))

/-- PFI, WFI, SYNC and NOP (R518, R528, R526, R173): PFI takes a present interrupt whatever the enable state, with the
request's cause, and else does nothing; WFI advances and waits; SYNC and NOP advance, a vector NOP while VL is at most VLMAX;
above that it is refused (R552). -/
def Obligations.WaitPollAndNop : Prop :=
  ∀ (s : State), s.mods.fit .plain = true →
    (∀ c, s.irq = some c → nextWith (exec .pfi s) (trapped (BitVec.ofNat 64 c.toNat) s)) ∧
    (s.irq = none → nextWith (exec .pfi s) (onlyAdvanced s)) ∧
    nextWith (exec .wfi s) (fun t => t = { s with waiting := true, ip := s.ipNext, mods := Mods.empty }) ∧
    nextWith (exec .sync s) (onlyAdvanced s) ∧ nextWith (exec (.nop false) s) (onlyAdvanced s) ∧
    (s.vl.toNat ≤ s.cfg.vlmax → nextWith (exec (.nop true) s) (onlyAdvanced s)) ∧
    (s.cfg.vlmax < s.vl.toNat → exec (.nop true) s = .refused .vectorLength)

/-- TLBRW (R524): Rt takes the entry that Ra selects, way 11:10 and entry 9:0; if bit 63 of Ra is set the entry takes Rb;
no other entry changes; below machine mode the parameter sys_priv decides (R652).
Type codes that do not fit raise (R172): the model's choice (log 13). -/
def Obligations.TlbReadWrite : Prop :=
  ∀ (f : SysF) (s : State), s.mods.fit .plain = true →
    if f.ra6.msb = true ∨ f.rb6.msb = true ∨ f.rt6.msb = true then nextWith (exec (.tlbrw f) s) (raisedUnimplemented s) else
    (s.mode.index.val < 3 → s.cfg.sysPriv = .refuse → exec (.tlbrw f) s = .refused .privilegeUnstated) ∧
    (s.mode.index.val < 3 → s.cfg.sysPriv = .trap →
      nextWith (exec (.tlbrw f) s) (trapped (s.cfg.causePrivilege.setWidth 64) s)) ∧
    (3 ≤ s.mode.index.val ∨ s.cfg.sysPriv = .allow →
      nextWith (exec (.tlbrw f) s) (fun t => ∃ u,
        (u = { s with tlb := u.tlb } ∧ ∀ w e, u.tlbEntry w e =
          if (s.reg (f.ra6.setWidth 5)).msb = true ∧ w = (s.reg (f.ra6.setWidth 5)).extractLsb' 10 2 ∧
              e = (s.reg (f.ra6.setWidth 5)).extractLsb' 0 10
          then s.reg (f.rb6.setWidth 5) else s.tlbEntry w e) ∧
        wroteReg (f.rt6.setWidth 5)
          (s.tlbEntry ((s.reg (f.ra6.setWidth 5)).extractLsb' 10 2) ((s.reg (f.ra6.setWidth 5)).extractLsb' 0 10)) u t))

/-- The empty and the named-only cells of the {SYS} map (R530 to R535, R538): the empty ones raise
UnimplementedInstruction, the named ones are refused, behind modifiers of any kind too (that an empty cell raises behind EXI,
BRMOD and STRIDE words is the model's choice, log 32). -/
def Obligations.SystemCellsWithoutEffect : Prop :=
  ∀ (s : State) (n : BitVec 7) (f : SysF),
    nextWith (exec (.sysOther n f) s) (raisedUnimplemented s) ∧
    ∀ i ∈ ([.llal, .llah, .lpal, .lpah, .setkey, .setto, .getto, .getzl, .mvseg] : List Instr),
      exec i s = .refused .mapNameOnly

/-- The instructions that an opcode map names without an effect stop, and how (R209, R323, R333, R360 to R362, R401, R450,
R480). -/
def Obligations.NamedOnlyInstructionsStop : Prop :=
  ∀ s : State,
    (∀ i ∈ ([.tst, .ptrinc, .mulh, .divsuR, .remsuR, .mulsuR, .mulsuh, .muluh, .rgf, .divsuI, .mulsuI, .remsuI, .sand, .sor,
        .setGroup, .df1, .df2, .pst1, .pst2, .df3, .df4, .pst3, .pst4, .frsqrte, .ftoi, .itof, .fsign, .fman, .fs2d,
        .fs2q, .fd2q, .fstat, .isnan, .finite, .ftx, .fcx, .fex, .fdx, .frm, .trunc, .fsync, .fres, .fsigmoid, .fd2s,
        .fq2s, .fq2d, .fclass1, .unord, .scaleb, .frem, .fnxt, .fandB, .forB, .cpysgn, .sgninv, .sgnand, .sgnor, .sgnxor,
        .sgnxnor, .fclass2, .fma, .fms, .fnma, .fnms, .fblt, .fbge, .dfblt, .dfbge, .fbeq, .fbne, .lsm] : List Instr),
      exec i s = .refused .mapNameOnly) ∧
    exec .transform s = .refused .noFormula ∧
    exec .mort s = .refused .transposeUnspecified ∧ exec .mxort s = .refused .transposeUnspecified

/-! ## Vector -/

/-- The mask-register operations (R570 to R577), on VLMAX bits; writing keeps a mask's value modulo 2^VLMAX. -/
def Obligations.MaskOperations : Prop :=
  maskForm .mand (fun a b => a &&& b) ∧ maskForm .morM (fun a b => a ||| b) ∧ maskForm .mxorM (fun a b => a ^^^ b) ∧
  maskForm .mnand (fun a b => ~~~(a &&& b)) ∧ maskForm .mnor (fun a b => ~~~(a ||| b)) ∧
  maskForm .mxnor (fun a b => ~~~(a ^^^ b)) ∧
  maskForm .madd (fun a b => BitVec.ofNat 128 (a.toNat + b.toNat)) ∧
  maskForm .msub (fun a b => BitVec.ofInt 128 ((a.toNat : Int) - b.toNat)) ∧
  (∀ (f : VmShiftF) (s : State), s.mods.fit .plain = true →
    nextWith (exec (.msll f) s) (wroteMask f.vmt (BitVec.ofNat 128 ((s.mask f.vma).toNat * 2 ^ f.imm6.toNat)) s) ∧
    nextWith (exec (.msrl f) s) (wroteMask f.vmt (BitVec.ofNat 128 ((s.mask f.vma).toNat / 2 ^ f.imm6.toNat)) s)) ∧
  (∀ n ≤ 128, ∀ x : BitVec 128, (x &&& maskBits n).toNat = x.toNat % 2 ^ n)

/-- Between masks, VL and scalar registers (R561 to R567, R578, R579): the count of ones; the lowest and the highest one, 128
if there is none; the low 64 bits; the leading zeros of VLMAX bits; the first Ra bits set; the bits of Ra; VL.
Type codes that do not fit raise (R172): the model's choice (log 13). -/
def Obligations.MaskMoves : Prop :=
  maskReadForm .mpop (fun _ m w => w = BitVec.ofNat 64 (Finset.card {i : Fin 128 | m.getLsbD i.val = true})) ∧
  maskReadForm .mfirst (fun _ m w => (m = 0#128 → w = 128#64) ∧
    ∀ k, m.getLsbD k = true → (∀ j < k, m.getLsbD j = false) → w = BitVec.ofNat 64 k) ∧
  maskReadForm .mlast (fun _ m w => (m = 0#128 → w = 128#64) ∧
    ∀ k, m.getLsbD k = true → (∀ j, k < j → m.getLsbD j = false) → w = BitVec.ofNat 64 k) ∧
  maskReadForm .mfm (fun _ m w => w = BitVec.ofNat 64 (m.toNat % 2 ^ 64)) ∧
  maskReadForm .cntlzM (fun p m w => p.vlmax ≤ 128 →
    w = BitVec.ofNat 64 (if m = 0#128 then p.vlmax else p.vlmax - 1 - m.toNat.log2)) ∧
  (∀ (f : VmPutF) (s : State), s.mods.fit .plain = true →
    if isVec f.ta2 = true then
      nextWith (exec (.mfill f) s) (raisedUnimplemented s) ∧ nextWith (exec (.mtm f) s) (raisedUnimplemented s)
    else
      nextWith (exec (.mfill f) s) (fun t => ∃ x, wroteMask f.vmt x s t ∧
        ∀ i < 128, x.getLsbD i = decide (i < (s.srcSpec .signed f.ta2 f.ra 0).toNat)) ∧
      nextWith (exec (.mtm f) s) (wroteMask f.vmt (BitVec.ofNat 128 (s.srcSpec .signed f.ta2 f.ra 0).toNat) s)) ∧
  (∀ (f : VlPutF) (s : State), s.mods.fit .plain = true →
    if isVec f.ta2 = true then nextWith (exec (.mtvl f) s) (raisedUnimplemented s)
    else nextWith (exec (.mtvl f) s)
      (fun t => t = { s with vl := s.srcSpec .signed f.ta2 f.ra 0, ip := s.ipNext, mods := Mods.empty })) ∧
  (∀ (f : VlGetF) (s : State), s.mods.fit .plain = true →
    if f.tt2 = 0#2 then nextWith (exec (.mfvl f) s) (wroteReg f.rt s.vl s)
    else nextWith (exec (.mfvl f) s) (raisedUnimplemented s))

/-- The set-mask comparisons (R585, R586): codes 0 equal, 1 not equal, 2 less than, 3 less than or equal; of doubles as the
model orders them (log 9). -/
def Obligations.SetMaskComparisons : Prop :=
  setMaskForm .setm .signed (fun c a b =>
    (c = 0#3 ∧ a = b) ∨ (c = 1#3 ∧ a ≠ b) ∨ (c = 2#3 ∧ a.toInt < b.toInt) ∨ (c = 3#3 ∧ a.toInt ≤ b.toInt)) ∧
  setMaskForm .fsetm .float (fun c a b =>
    (c = 0#3 ∧ fpCompare a b = .eq) ∨ (c = 1#3 ∧ fpCompare a b ≠ .eq) ∨ (c = 2#3 ∧ fpCompare a b = .lt) ∨
      (c = 3#3 ∧ (fpCompare a b = .lt ∨ fpCompare a b = .eq)))

/-- V2BITS, VBITS2V, VCMPRSS, VCIDX and VSCAN (R580 to R584), under their own mask field; other type codes raise (log 13);
with fitting ones they are refused while VL exceeds VLMAX (R552). A scalar Ra of VCMPRSS gives every element (R131; log 24). -/
def Obligations.MaskedVectorMoves : Prop :=
  ∀ (f : R1F) (s : State), s.mods.fit .plain = true →
    (f.v = true → s.vl.toNat ≤ s.cfg.vlmax →
      (f.ta = true → f.tt = false →
        ∃ w : Word, nextWith (exec (.v2bits f) s) (wroteReg f.rt w s) ∧
          ∀ x < 64, w.getLsbD x =
            if x < s.vl.toNat ∧ (s.mask f.m3).getLsbD x = true then (s.elem f.ra x).getLsbD 0
            else if x < s.vl.toNat ∧ f.z = true then false else (s.reg f.rt).getLsbD x) ∧
      (f.ta = false → f.tt = true →
        nextWith (exec (.vbits2v f) s) (wroteElems f.rt (masked s (some (f.m3, f.z))
          (fun x => BitVec.ofNat 64 ((s.reg f.ra).toNat / 2 ^ x % 2))) s) ∧
        nextWith (exec (.vcidx f) s) (wroteElems f.rt (packed f.z (activeElements s (some (f.m3, f.z))).length
          (fun j => s.reg f.ra * BitVec.ofNat 64 ((activeElements s (some (f.m3, f.z))).getD j 0))) s) ∧
        nextWith (exec (.vscan f) s) (wroteElems f.rt (fun x => some (BitVec.ofNat 64
          ((s.reg f.ra).toNat * ((List.range x).filter (fun y => (s.mask f.m3).getLsbD y)).length))) s)) ∧
      (f.tt = true →
        nextWith (exec (.vcmprss f) s) (wroteElems f.rt (packed f.z (activeElements s (some (f.m3, f.z))).length
          (fun j => s.srcA f.ta f.ra ((activeElements s (some (f.m3, f.z))).getD j 0))) s))) ∧
    (f.v = true → s.cfg.vlmax < s.vl.toNat →
      (f.ta = true → f.tt = false → exec (.v2bits f) s = .refused .vectorLength) ∧
      (f.ta = false → f.tt = true → exec (.vbits2v f) s = .refused .vectorLength ∧
        exec (.vcidx f) s = .refused .vectorLength ∧ exec (.vscan f) s = .refused .vectorLength) ∧
      (f.tt = true → exec (.vcmprss f) s = .refused .vectorLength)) ∧
    (f.v = false ∨ f.ta = false ∨ f.tt = true → nextWith (exec (.v2bits f) s) (raisedUnimplemented s)) ∧
    (f.v = false ∨ f.ta = true ∨ f.tt = false → nextWith (exec (.vbits2v f) s) (raisedUnimplemented s) ∧
      nextWith (exec (.vcidx f) s) (raisedUnimplemented s) ∧ nextWith (exec (.vscan f) s) (raisedUnimplemented s)) ∧
    (f.v = false ∨ f.tt = false → nextWith (exec (.vcmprss f) s) (raisedUnimplemented s))

/-- VEINS, VEX, VSLLV and VSRLV (R587, R588, R600, R601): one element in or out, refused from VLMAX up; the elements moved
up or down, zeros entering; VEINS and VSLLV are not masked (R587, R600), VSRLV and VEX are under the modifier's mask (R185,
R551), VEX by the mask's bit for the element it reads (the model's choice, log 41); other type codes raise (log 13); with
fitting ones they are refused while VL exceeds VLMAX (R552), VEINS and VEX too (log 24). A scalar Ra of VSLLV and VSRLV gives every element (R131; log 24). -/
def Obligations.VectorInsertAndSlide : Prop :=
  ∀ (f : R2F) (s : State), s.mods.fit .plain = true →
    (f.v = true → s.vl.toNat ≤ s.cfg.vlmax →
      (f.ta = false → f.tt = true → isVec f.tb = false → (s.reg f.ra).toNat < s.cfg.vlmax →
        nextWith (exec (.veins f) s) (fun t => t = { s with vregs := t.vregs, ip := s.ipNext, mods := Mods.empty } ∧
          ∀ q e, t.elem q e = if q = f.rt ∧ e = (s.reg f.ra).toNat then s.srcSpec .signed f.tb f.rb 0 else s.elem q e)) ∧
      (f.ta = false → f.tt = false → isVec f.tb = true → (s.reg f.ra).toNat < s.cfg.vlmax →
        nextWith (exec (.vex f) s) (match masked s s.mods.maskSel (s.elem f.rb) (s.reg f.ra).toNat with
          | some w => wroteReg f.rt w s
          | none => onlyAdvanced s)) ∧
      (f.ta = false → s.cfg.vlmax ≤ (s.reg f.ra).toNat →
        (f.tt = true → isVec f.tb = false → exec (.veins f) s = .refused .elementIndex) ∧
        (f.tt = false → isVec f.tb = true → exec (.vex f) s = .refused .elementIndex)) ∧
      (f.tt = true → isVec f.tb = false →
        nextWith (exec (.vsllv f) s) (wroteElems f.rt (fun x => some
          (if (s.srcSpec .unsigned f.tb f.rb 0).toNat ≤ x then
            s.srcA f.ta f.ra (x - (s.srcSpec .unsigned f.tb f.rb 0).toNat) else 0#64)) s) ∧
        nextWith (exec (.vsrlv f) s) (wroteElems f.rt (masked s s.mods.maskSel (fun x =>
          if x + (s.srcSpec .unsigned f.tb f.rb 0).toNat < s.vl.toNat then
            s.srcA f.ta f.ra (x + (s.srcSpec .unsigned f.tb f.rb 0).toNat) else 0#64)) s))) ∧
    (f.v = true → s.cfg.vlmax < s.vl.toNat →
      (f.ta = false → f.tt = true → isVec f.tb = false → exec (.veins f) s = .refused .vectorLength) ∧
      (f.ta = false → f.tt = false → isVec f.tb = true → exec (.vex f) s = .refused .vectorLength) ∧
      (f.tt = true → isVec f.tb = false →
        exec (.vsllv f) s = .refused .vectorLength ∧ exec (.vsrlv f) s = .refused .vectorLength)) ∧
    (f.v = false ∨ f.ta = true ∨ f.tt = false ∨ isVec f.tb = true → nextWith (exec (.veins f) s) (raisedUnimplemented s)) ∧
    (f.v = false ∨ f.ta = true ∨ f.tt = true ∨ isVec f.tb = false → nextWith (exec (.vex f) s) (raisedUnimplemented s)) ∧
    (f.v = false ∨ f.tt = false ∨ isVec f.tb = true →
      nextWith (exec (.vsllv f) s) (raisedUnimplemented s) ∧ nextWith (exec (.vsrlv f) s) (raisedUnimplemented s))

/-- The vector loads (R590 to R594): element x at base plus displacement plus stride times x, or plus the index element x;
compressed, the j-th position from the j-th address (strided) or from the j-th active element's (indexed); extended by
sign, or by zero where the zeroing bit is in force. Where one of the accesses made is not accessible the load is refused (R88,
R91, R102, R613); elements that are not loaded make no access.
Type codes that do not fit raise (R172): the model's choice (log 13). -/
def Obligations.VectorLoads : Prop :=
  ∀ (s : State) (f : LdF) (func4 : BitVec 4),
    let sel := s.mods.maskSel
    let act := activeElements s sel
    let addr := fun (m : StrideF) => strideAddress s m (s.reg f.ra + s.mods.disp f.disp12)
    let plain := fun (o : Out) (m : StrideF) (n : Nat) =>
      onAccesses s .read n (act.map (addr m)) o
        (∃ g : Nat → Word, (∀ x < s.vl.toNat, s.active sel x = true → holdsBytes s .read (addr m x) n (g x)) ∧
          nextWith o (wroteElems f.rt (masked s sel (fun x => extended (!zeroing sel) n (g x))) s))
    let compressed := fun (o : Out) (m : StrideF) (n : Nat) (at_ : Nat → Nat) =>
      onAccesses s .read n ((List.range act.length).map (fun j => addr m (at_ j))) o
        (∃ g : Nat → Word, (∀ j < act.length, holdsBytes s .read (addr m (at_ j)) n (g j)) ∧
          nextWith o (wroteElems f.rt (packed (zeroing sel) act.length (fun j => extended (!zeroing sel) n (g j))) s))
    strideForm (exec (.lds func4 f) s) s false (f.ta || !f.tt) func4 (fun m n => plain (exec (.lds func4 f) s) m n) ∧
    strideForm (exec (.ldVX func4 f) s) s true (f.ta || !f.tt) func4 (fun m n => plain (exec (.ldVX func4 f) s) m n) ∧
    strideForm (exec (.cvlds func4 f) s) s false (f.ta || !f.tt) func4
      (fun m n => compressed (exec (.cvlds func4 f) s) m n (fun j => j)) ∧
    strideForm (exec (.cvldVX func4 f) s) s true (f.ta || !f.tt) func4
      (fun m n => compressed (exec (.cvldVX func4 f) s) m n (fun j => act.getD j 0))

/-- The vector stores (R590, R595 to R598): the active elements, and zeros for the others where the zeroing bit is in force,
in ascending order; compressed, the j-th active element at the j-th address, refused while the zeroing bit is in force. Where one
of the accesses made is not accessible the store is refused (R88, R91, R102, R613).
Type codes that do not fit raise (R172): the model's choice (log 13). -/
def Obligations.VectorStores : Prop :=
  ∀ (s : State) (f : StF) (func4 : BitVec 4),
    let sel := s.mods.maskSel
    let act := activeElements s sel
    let addr := fun (m : StrideF) => strideAddress s m (s.reg f.ra + s.mods.disp f.disp11)
    let data := fun x => s.srcSpec .signed f.tb f.rb x
    let writes := fun (o : Out) (n : Nat) (l : List (Word × Word)) =>
      onAccesses s .write n (l.map (fun p => p.1)) o
        (nextWith o (fun t => ∃ u, storedInOrder n l s u ∧ t = { u with ip := s.ipNext, mods := Mods.empty }))
    let plain := fun (o : Out) (m : StrideF) (n : Nat) =>
      writes o n ((List.range s.vl.toNat).filterMap (fun x => (masked s sel data x).map (fun w => (addr m x, w))))
    let compressed := fun (o : Out) (m : StrideF) (n : Nat) =>
      if zeroing sel = true then o = .refused .compressZero
      else writes o n ((List.range act.length).map (fun j => (addr m j, data (act.getD j 0))))
    strideForm (exec (.sts func4 f) s) s false f.ta func4 (fun m n => plain (exec (.sts func4 f) s) m n) ∧
    strideForm (exec (.stVX func4 f) s) s true f.ta func4 (fun m n => plain (exec (.stVX func4 f) s) m n) ∧
    strideForm (exec (.cvsts func4 f) s) s false f.ta func4 (fun m n => compressed (exec (.cvsts func4 f) s) m n) ∧
    strideForm (exec (.cvstVX func4 f) s) s true f.ta func4 (fun m n => compressed (exec (.cvstVX func4 f) s) m n)
end

