-- ==== Sys2Proof/Laws/Encode.lean ====
section
/-! SUPPORT. Fields of words: what cutting a field out of a written word gives, and for each format that reading what
was written gives the fields, the opcode and the function code back. -/

namespace Sys2Proof

/-! ## Fields of a word -/

@[simp] theorem fld_or (a b : Code) (lo n : Nat) : fld (a ||| b) lo n = fld a lo n ||| fld b lo n := by
  ext i
  simp [fld]

@[simp] theorem fld_put_eq {n : Nat} (x : BitVec n) (lo : Nat) (h : lo + n ≤ 36) : fld (put lo x) lo n = x := by
  ext i hi
  have h1 : lo + i < 36 := by omega
  have h2 : i < 36 := by omega
  simp [fld, put, h1, BitVec.getLsbD_eq_getElem, hi]

@[simp] theorem fld_put_above {n m : Nat} (x : BitVec m) (p lo : Nat) (h : p + m ≤ lo) : fld (put p x) lo n = 0#n := by
  ext i hi
  simp only [fld, put, BitVec.getElem_extractLsb', BitVec.getLsbD_shiftLeft, BitVec.getLsbD_setWidth, BitVec.getElem_zero]
  rw [BitVec.getLsbD_of_ge x (lo + i - p) (by omega)]
  simp

@[simp] theorem fld_put_below {n m : Nat} (x : BitVec m) (p lo : Nat) (h : lo + n ≤ p) : fld (put p x) lo n = 0#n := by
  ext i hi
  have h1 : lo + i < p := by omega
  simp [fld, put, h1]

@[simp] theorem bit_or (a b : Code) (lo : Nat) : bit (a ||| b) lo = (bit a lo || bit b lo) := by simp [bit]

theorem bit_eq_fld (w : Code) (lo : Nat) : bit w lo = (fld w lo 1)[0] := by simp [bit, fld]

@[simp] theorem bit_putB_eq (x : Bool) (lo : Nat) (h : lo < 36) : bit (putB lo x) lo = x := by
  rw [bit_eq_fld, putB, fld_put_eq _ _ (by omega)]
  simp

@[simp] theorem bit_put_above {m : Nat} (x : BitVec m) (p lo : Nat) (h : p + m ≤ lo) : bit (put p x) lo = false := by
  rw [bit_eq_fld, fld_put_above _ _ _ h]
  simp

@[simp] theorem bit_put_below {m : Nat} (x : BitVec m) (p lo : Nat) (h : lo < p) : bit (put p x) lo = false := by
  rw [bit_eq_fld, fld_put_below _ _ _ (by omega)]
  simp

@[simp] theorem bit_putB_ne (x : Bool) (p lo : Nat) (h : lo ≠ p) : bit (putB p x) lo = false := by
  rcases Nat.lt_or_ge lo p with h' | h'
  · exact bit_put_below _ _ _ h'
  · exact bit_put_above _ _ _ (by omega)

@[simp] theorem fld_putB_above {n : Nat} (x : Bool) (p lo : Nat) (h : p + 1 ≤ lo) : fld (putB p x) lo n = 0#n :=
  fld_put_above _ _ _ h

@[simp] theorem fld_putB_below {n : Nat} (x : Bool) (p lo : Nat) (h : lo + n ≤ p) : fld (putB p x) lo n = 0#n :=
  fld_put_below _ _ _ h

theorem high_append {a b : Nat} (x : BitVec (a + b)) : high b x a ++ high 0 x b = x := by
  ext i hi
  simp only [high, BitVec.getElem_append, BitVec.getElem_extractLsb', Nat.zero_add]
  split
  · rw [BitVec.getLsbD_eq_getElem]
  · rename_i h
    rw [show b + (i - b) = i by omega, BitVec.getLsbD_eq_getElem]

/-! ## Formats -/

@[simp] theorem R1F.ofWord_toWord (f : R1F) (op fn : BitVec 7) : R1F.ofWord (f.toWord op fn) = f := by
  simp [R1F.ofWord, R1F.toWord]

@[simp] theorem R1F.root_toWord (f : R1F) (op fn : BitVec 7) : fld (f.toWord op fn) 0 7 = op := by
  simp [R1F.toWord]

@[simp] theorem R1F.func_toWord (f : R1F) (op fn : BitVec 7) : fld (f.toWord op fn) 29 7 = fn := by
  simp [R1F.toWord]

@[simp] theorem R1F.half_toWord (f : R1F) (op fn : BitVec 7) : bit (f.toWord op fn) 7 = f.v := by
  simp [R1F.toWord]

@[simp] theorem R2F.ofWord_toWord (f : R2F) (op fn : BitVec 7) : R2F.ofWord (f.toWord op fn) = f := by
  simp [R2F.ofWord, R2F.toWord]

@[simp] theorem R2F.root_toWord (f : R2F) (op fn : BitVec 7) : fld (f.toWord op fn) 0 7 = op := by
  simp [R2F.toWord]

@[simp] theorem R2F.func_toWord (f : R2F) (op fn : BitVec 7) : fld (f.toWord op fn) 29 7 = fn := by
  simp [R2F.toWord]

@[simp] theorem R2F.half_toWord (f : R2F) (op fn : BitVec 7) : bit (f.toWord op fn) 7 = f.v := by
  simp [R2F.toWord]

@[simp] theorem ShiftF.ofWord_toWord (f : ShiftF) (op fn : BitVec 7) : ShiftF.ofWord (f.toWord op fn) = f := by
  simp [ShiftF.ofWord, ShiftF.toWord]

@[simp] theorem ShiftF.root_toWord (f : ShiftF) (op fn : BitVec 7) : fld (f.toWord op fn) 0 7 = op := by
  simp [ShiftF.toWord]

@[simp] theorem ShiftF.func_toWord (f : ShiftF) (op fn : BitVec 7) : fld (f.toWord op fn) 29 7 = fn := by
  simp [ShiftF.toWord]

@[simp] theorem ShiftF.half_toWord (f : ShiftF) (op fn : BitVec 7) : bit (f.toWord op fn) 7 = f.v := by
  simp [ShiftF.toWord]

@[simp] theorem SetMaskF.ofWord_toWord (f : SetMaskF) (op fn : BitVec 7) : SetMaskF.ofWord (f.toWord op fn) = f := by
  simp [SetMaskF.ofWord, SetMaskF.toWord]

@[simp] theorem SetMaskF.root_toWord (f : SetMaskF) (op fn : BitVec 7) : fld (f.toWord op fn) 0 7 = op := by
  simp [SetMaskF.toWord]

@[simp] theorem SetMaskF.func_toWord (f : SetMaskF) (op fn : BitVec 7) : fld (f.toWord op fn) 29 7 = fn := by
  simp [SetMaskF.toWord]

@[simp] theorem SetMaskF.half_toWord (f : SetMaskF) (op fn : BitVec 7) : bit (f.toWord op fn) 7 = true := by
  simp [SetMaskF.toWord]

@[simp] theorem RIF.ofWord_toWord (f : RIF) (op : BitVec 7) : RIF.ofWord (f.toWord op) = f := by
  simp [RIF.ofWord, RIF.toWord]

@[simp] theorem RIF.root_toWord (f : RIF) (op : BitVec 7) : fld (f.toWord op) 0 7 = op := by
  simp [RIF.toWord]

@[simp] theorem RIF.half_toWord (f : RIF) (op : BitVec 7) : bit (f.toWord op) 7 = f.v := by
  simp [RIF.toWord]

@[simp] theorem ChkRF.ofWord_toWord (f : ChkRF) (op fn : BitVec 7) : ChkRF.ofWord (f.toWord op fn) = f := by
  simp [ChkRF.ofWord, ChkRF.toWord]

@[simp] theorem ChkRF.root_toWord (f : ChkRF) (op fn : BitVec 7) : fld (f.toWord op fn) 0 7 = op := by
  simp [ChkRF.toWord]

@[simp] theorem ChkRF.func_toWord (f : ChkRF) (op fn : BitVec 7) : fld (f.toWord op fn) 29 7 = fn := by
  simp [ChkRF.toWord]

@[simp] theorem ChkRF.half_toWord (f : ChkRF) (op fn : BitVec 7) : bit (f.toWord op fn) 7 = f.v := by
  simp [ChkRF.toWord]

@[simp] theorem ChkIF.ofWord_toWord (f : ChkIF) (op : BitVec 7) : ChkIF.ofWord (f.toWord op) = f := by
  simp [ChkIF.ofWord, ChkIF.toWord]

@[simp] theorem ChkIF.root_toWord (f : ChkIF) (op : BitVec 7) : fld (f.toWord op) 0 7 = op := by
  simp [ChkIF.toWord]

@[simp] theorem ChkIF.half_toWord (f : ChkIF) (op : BitVec 7) : bit (f.toWord op) 7 = f.v := by
  simp [ChkIF.toWord]

@[simp] theorem BytRF.ofWord_toWord (f : BytRF) (op : BitVec 7) (sel : BitVec 4) : BytRF.ofWord (f.toWord op sel) = f := by
  simp [BytRF.ofWord, BytRF.toWord]

@[simp] theorem BytRF.root_toWord (f : BytRF) (op : BitVec 7) (sel : BitVec 4) : fld (f.toWord op sel) 0 7 = op := by
  simp [BytRF.toWord]

@[simp] theorem BytRF.func_toWord (f : BytRF) (op : BitVec 7) (sel : BitVec 4) : fld (f.toWord op sel) 32 4 = sel := by
  simp [BytRF.toWord]

@[simp] theorem BytRF.half_toWord (f : BytRF) (op : BitVec 7) (sel : BitVec 4) : bit (f.toWord op sel) 7 = f.v := by
  simp [BytRF.toWord]

@[simp] theorem BytIF.ofWord_toWord (f : BytIF) (op : BitVec 7) (sel : BitVec 4) : BytIF.ofWord (f.toWord op sel) = f := by
  simp [BytIF.ofWord, BytIF.toWord]

@[simp] theorem BytIF.root_toWord (f : BytIF) (op : BitVec 7) (sel : BitVec 4) : fld (f.toWord op sel) 0 7 = op := by
  simp [BytIF.toWord]

@[simp] theorem BytIF.func_toWord (f : BytIF) (op : BitVec 7) (sel : BitVec 4) : fld (f.toWord op sel) 32 4 = sel := by
  simp [BytIF.toWord]

@[simp] theorem BytIF.half_toWord (f : BytIF) (op : BitVec 7) (sel : BitVec 4) : bit (f.toWord op sel) 7 = f.v := by
  simp [BytIF.toWord]

@[simp] theorem CsrF.ofWord_toWord (f : CsrF) (op : BitVec 7) (op2 : BitVec 2) : CsrF.ofWord (f.toWord op op2) = f := by
  simp [CsrF.ofWord, CsrF.toWord]

@[simp] theorem CsrF.root_toWord (f : CsrF) (op : BitVec 7) (op2 : BitVec 2) : fld (f.toWord op op2) 0 7 = op := by
  simp [CsrF.toWord]

@[simp] theorem CsrF.op2_toWord (f : CsrF) (op : BitVec 7) (op2 : BitVec 2) : fld (f.toWord op op2) 13 2 = op2 := by
  simp [CsrF.toWord]

@[simp] theorem CsrF.half_toWord (f : CsrF) (op : BitVec 7) (op2 : BitVec 2) : bit (f.toWord op op2) 7 = false := by
  simp [CsrF.toWord]

@[simp] theorem BrF.ofWord_toWord (f : BrF) (op : BitVec 7) : BrF.ofWord (f.toWord op) = f := by
  simp [BrF.ofWord, BrF.toWord]
  rw [high_append (a := 9) (b := 6)]

@[simp] theorem BrF.root_toWord (f : BrF) (op : BitVec 7) : fld (f.toWord op) 0 7 = op := by
  simp [BrF.toWord]

@[simp] theorem BrF.half_toWord (f : BrF) (op : BitVec 7) : bit (f.toWord op) 7 = false := by
  simp [BrF.toWord]

@[simp] theorem ImodF.ofWord_toWord (f : ImodF) (op : BitVec 7) : ImodF.ofWord (f.toWord op) = f := by
  simp [ImodF.ofWord, ImodF.toWord]
  rw [high_append (a := 1) (b := 1)]

@[simp] theorem ImodF.root_toWord (f : ImodF) (op : BitVec 7) : fld (f.toWord op) 0 7 = op := by
  simp [ImodF.toWord]

@[simp] theorem ImodF.half_toWord (f : ImodF) (op : BitVec 7) : bit (f.toWord op) 7 = false := by
  simp [ImodF.toWord]

@[simp] theorem BrmodF.ofWord_toWord (f : BrmodF) (op : BitVec 7) : BrmodF.ofWord (f.toWord op) = f := by
  simp [BrmodF.ofWord, BrmodF.toWord]

@[simp] theorem BrmodF.root_toWord (f : BrmodF) (op : BitVec 7) : fld (f.toWord op) 0 7 = op := by
  simp [BrmodF.toWord]

@[simp] theorem BrmodF.half_toWord (f : BrmodF) (op : BitVec 7) : bit (f.toWord op) 7 = false := by
  simp [BrmodF.toWord]

@[simp] theorem StrideF.ofWord_toWord (f : StrideF) (op : BitVec 7) : StrideF.ofWord (f.toWord op) = f := by
  simp [StrideF.ofWord, StrideF.toWord]

@[simp] theorem StrideF.root_toWord (f : StrideF) (op : BitVec 7) : fld (f.toWord op) 0 7 = op := by
  simp [StrideF.toWord]

@[simp] theorem StrideF.half_toWord (f : StrideF) (op : BitVec 7) : bit (f.toWord op) 7 = false := by
  simp [StrideF.toWord]

@[simp] theorem LdF.ofWord_toWord (f : LdF) (op : BitVec 7) (func4 : BitVec 4) (v : Bool) : LdF.ofWord (f.toWord op func4 v) = f := by
  simp [LdF.ofWord, LdF.toWord]

@[simp] theorem LdF.root_toWord (f : LdF) (op : BitVec 7) (func4 : BitVec 4) (v : Bool) : fld (f.toWord op func4 v) 0 7 = op := by
  simp [LdF.toWord]

@[simp] theorem LdF.func_toWord (f : LdF) (op : BitVec 7) (func4 : BitVec 4) (v : Bool) : fld (f.toWord op func4 v) 32 4 = func4 := by
  simp [LdF.toWord]

@[simp] theorem LdF.half_toWord (f : LdF) (op : BitVec 7) (func4 : BitVec 4) (v : Bool) : bit (f.toWord op func4 v) 7 = v := by
  simp [LdF.toWord]

@[simp] theorem LdxF.ofWord_toWord (f : LdxF) (op : BitVec 7) (func4 : BitVec 4) : LdxF.ofWord (f.toWord op func4) = f := by
  simp [LdxF.ofWord, LdxF.toWord]

@[simp] theorem LdxF.root_toWord (f : LdxF) (op : BitVec 7) (func4 : BitVec 4) : fld (f.toWord op func4) 0 7 = op := by
  simp [LdxF.toWord]

@[simp] theorem LdxF.func_toWord (f : LdxF) (op : BitVec 7) (func4 : BitVec 4) : fld (f.toWord op func4) 32 4 = func4 := by
  simp [LdxF.toWord]

@[simp] theorem LdxF.half_toWord (f : LdxF) (op : BitVec 7) (func4 : BitVec 4) : bit (f.toWord op func4) 7 = false := by
  simp [LdxF.toWord]

@[simp] theorem CacheF.ofWord_toWord (f : CacheF) (op : BitVec 7) (func4 : BitVec 4) : CacheF.ofWord (f.toWord op func4) = f := by
  simp [CacheF.ofWord, CacheF.toWord]

@[simp] theorem CacheF.root_toWord (f : CacheF) (op : BitVec 7) (func4 : BitVec 4) : fld (f.toWord op func4) 0 7 = op := by
  simp [CacheF.toWord]

@[simp] theorem CacheF.func_toWord (f : CacheF) (op : BitVec 7) (func4 : BitVec 4) : fld (f.toWord op func4) 32 4 = func4 := by
  simp [CacheF.toWord]

@[simp] theorem CacheF.half_toWord (f : CacheF) (op : BitVec 7) (func4 : BitVec 4) : bit (f.toWord op func4) 7 = false := by
  simp [CacheF.toWord]

@[simp] theorem StF.ofWord_toWord (f : StF) (op : BitVec 7) (func4 : BitVec 4) (v : Bool) : StF.ofWord (f.toWord op func4 v) = f := by
  simp [StF.ofWord, StF.toWord]
  rw [high_append (a := 5) (b := 6)]

@[simp] theorem StF.root_toWord (f : StF) (op : BitVec 7) (func4 : BitVec 4) (v : Bool) : fld (f.toWord op func4 v) 0 7 = op := by
  simp [StF.toWord]

@[simp] theorem StF.func_toWord (f : StF) (op : BitVec 7) (func4 : BitVec 4) (v : Bool) : fld (f.toWord op func4 v) 32 4 = func4 := by
  simp [StF.toWord]

@[simp] theorem StF.half_toWord (f : StF) (op : BitVec 7) (func4 : BitVec 4) (v : Bool) : bit (f.toWord op func4 v) 7 = v := by
  simp [StF.toWord]

@[simp] theorem StxF.ofWord_toWord (f : StxF) (op : BitVec 7) (func4 : BitVec 4) : StxF.ofWord (f.toWord op func4) = f := by
  simp [StxF.ofWord, StxF.toWord]

@[simp] theorem StxF.root_toWord (f : StxF) (op : BitVec 7) (func4 : BitVec 4) : fld (f.toWord op func4) 0 7 = op := by
  simp [StxF.toWord]

@[simp] theorem StxF.func_toWord (f : StxF) (op : BitVec 7) (func4 : BitVec 4) : fld (f.toWord op func4) 32 4 = func4 := by
  simp [StxF.toWord]

@[simp] theorem StxF.half_toWord (f : StxF) (op : BitVec 7) (func4 : BitVec 4) : bit (f.toWord op func4) 7 = false := by
  simp [StxF.toWord]

@[simp] theorem JalrF.ofWord_toWord (f : JalrF) (op : BitVec 7) : JalrF.ofWord (f.toWord op) = f := by
  simp [JalrF.ofWord, JalrF.toWord]

@[simp] theorem JalrF.root_toWord (f : JalrF) (op : BitVec 7) : fld (f.toWord op) 0 7 = op := by
  simp [JalrF.toWord]

@[simp] theorem JalrF.half_toWord (f : JalrF) (op : BitVec 7) : bit (f.toWord op) 7 = false := by
  simp [JalrF.toWord]

@[simp] theorem SysF.ofWord_toWord (f : SysF) (op fn : BitVec 7) : SysF.ofWord (f.toWord op fn) = f := by
  simp [SysF.ofWord, SysF.toWord]

@[simp] theorem SysF.root_toWord (f : SysF) (op fn : BitVec 7) : fld (f.toWord op fn) 0 7 = op := by
  simp [SysF.toWord]

@[simp] theorem SysF.func_toWord (f : SysF) (op fn : BitVec 7) : fld (f.toWord op fn) 29 7 = fn := by
  simp [SysF.toWord]

@[simp] theorem SysF.half_toWord (f : SysF) (op fn : BitVec 7) : bit (f.toWord op fn) 7 = false := by
  simp [SysF.toWord]

@[simp] theorem Vm3F.ofWord_toWord (f : Vm3F) (op fn : BitVec 7) : Vm3F.ofWord (f.toWord op fn) = f := by
  simp [Vm3F.ofWord, Vm3F.toWord]

@[simp] theorem Vm3F.root_toWord (f : Vm3F) (op fn : BitVec 7) : fld (f.toWord op fn) 0 7 = op := by
  simp [Vm3F.toWord]

@[simp] theorem Vm3F.func_toWord (f : Vm3F) (op fn : BitVec 7) : fld (f.toWord op fn) 29 7 = fn := by
  simp [Vm3F.toWord]

@[simp] theorem Vm3F.half_toWord (f : Vm3F) (op fn : BitVec 7) : bit (f.toWord op fn) 7 = false := by
  simp [Vm3F.toWord]

@[simp] theorem VmShiftF.ofWord_toWord (f : VmShiftF) (op fn : BitVec 7) : VmShiftF.ofWord (f.toWord op fn) = f := by
  simp [VmShiftF.ofWord, VmShiftF.toWord]

@[simp] theorem VmShiftF.root_toWord (f : VmShiftF) (op fn : BitVec 7) : fld (f.toWord op fn) 0 7 = op := by
  simp [VmShiftF.toWord]

@[simp] theorem VmShiftF.func_toWord (f : VmShiftF) (op fn : BitVec 7) : fld (f.toWord op fn) 29 7 = fn := by
  simp [VmShiftF.toWord]

@[simp] theorem VmShiftF.half_toWord (f : VmShiftF) (op fn : BitVec 7) : bit (f.toWord op fn) 7 = false := by
  simp [VmShiftF.toWord]

@[simp] theorem VmGetF.ofWord_toWord (f : VmGetF) (op fn : BitVec 7) : VmGetF.ofWord (f.toWord op fn) = f := by
  simp [VmGetF.ofWord, VmGetF.toWord]

@[simp] theorem VmGetF.root_toWord (f : VmGetF) (op fn : BitVec 7) : fld (f.toWord op fn) 0 7 = op := by
  simp [VmGetF.toWord]

@[simp] theorem VmGetF.func_toWord (f : VmGetF) (op fn : BitVec 7) : fld (f.toWord op fn) 29 7 = fn := by
  simp [VmGetF.toWord]

@[simp] theorem VmGetF.half_toWord (f : VmGetF) (op fn : BitVec 7) : bit (f.toWord op fn) 7 = false := by
  simp [VmGetF.toWord]

@[simp] theorem VmPutF.ofWord_toWord (f : VmPutF) (op fn : BitVec 7) : VmPutF.ofWord (f.toWord op fn) = f := by
  simp [VmPutF.ofWord, VmPutF.toWord]

@[simp] theorem VmPutF.root_toWord (f : VmPutF) (op fn : BitVec 7) : fld (f.toWord op fn) 0 7 = op := by
  simp [VmPutF.toWord]

@[simp] theorem VmPutF.func_toWord (f : VmPutF) (op fn : BitVec 7) : fld (f.toWord op fn) 29 7 = fn := by
  simp [VmPutF.toWord]

@[simp] theorem VmPutF.half_toWord (f : VmPutF) (op fn : BitVec 7) : bit (f.toWord op fn) 7 = false := by
  simp [VmPutF.toWord]

@[simp] theorem VlPutF.ofWord_toWord (f : VlPutF) (op fn : BitVec 7) : VlPutF.ofWord (f.toWord op fn) = f := by
  simp [VlPutF.ofWord, VlPutF.toWord]

@[simp] theorem VlPutF.root_toWord (f : VlPutF) (op fn : BitVec 7) : fld (f.toWord op fn) 0 7 = op := by
  simp [VlPutF.toWord]

@[simp] theorem VlPutF.func_toWord (f : VlPutF) (op fn : BitVec 7) : fld (f.toWord op fn) 29 7 = fn := by
  simp [VlPutF.toWord]

@[simp] theorem VlPutF.half_toWord (f : VlPutF) (op fn : BitVec 7) : bit (f.toWord op fn) 7 = false := by
  simp [VlPutF.toWord]

@[simp] theorem VlGetF.ofWord_toWord (f : VlGetF) (op fn : BitVec 7) : VlGetF.ofWord (f.toWord op fn) = f := by
  simp [VlGetF.ofWord, VlGetF.toWord]

@[simp] theorem VlGetF.root_toWord (f : VlGetF) (op fn : BitVec 7) : fld (f.toWord op fn) 0 7 = op := by
  simp [VlGetF.toWord]

@[simp] theorem VlGetF.func_toWord (f : VlGetF) (op fn : BitVec 7) : fld (f.toWord op fn) 29 7 = fn := by
  simp [VlGetF.toWord]

@[simp] theorem VlGetF.half_toWord (f : VlGetF) (op fn : BitVec 7) : bit (f.toWord op fn) 7 = false := by
  simp [VlGetF.toWord]

@[simp] theorem jalWord_root (op : BitVec 7) (c : BitVec 26) (r : BitVec 2) : fld (jalWord op c r) 0 7 = op := by
  simp [jalWord]

@[simp] theorem jalWord_half (op : BitVec 7) (c : BitVec 26) (r : BitVec 2) : bit (jalWord op c r) 7 = false := by
  simp [jalWord]

@[simp] theorem jalWord_link (op : BitVec 7) (c : BitVec 26) (r : BitVec 2) : fld (jalWord op c r) 8 2 = r := by
  simp [jalWord]

@[simp] theorem jalWord_target (op : BitVec 7) (c : BitVec 26) (r : BitVec 2) : fld (jalWord op c r) 10 26 = c := by
  simp [jalWord]

@[simp] theorem exiWord_root (op : BitVec 7) (p : BitVec 28) : fld (exiWord op p) 0 7 = op := by
  simp [exiWord]

@[simp] theorem exiWord_half (op : BitVec 7) (p : BitVec 28) : bit (exiWord op p) 7 = false := by
  simp [exiWord]

@[simp] theorem exiWord_payload (op : BitVec 7) (p : BitVec 28) : fld (exiWord op p) 8 28 = p := by
  simp [exiWord]

@[simp] theorem plainWord_root (op : BitVec 7) (v : Bool) : fld (plainWord op v) 0 7 = op := by
  simp [plainWord]

@[simp] theorem plainWord_half (op : BitVec 7) (v : Bool) : bit (plainWord op v) 7 = v := by
  simp [plainWord]

end Sys2Proof
end

