-- ==== Sys2Proof/Laws/Sparse.lean ====
section
/-! SUPPORT. The laws of sparse contents: what a key reads after a write, and that writing keeps the canonical form. -/

namespace Sys2Proof.Machine

section Read
variable {α : Type} (d : α)

theorem sparseGet_erase (m : List (Nat × α)) (a b : Nat) :
    sparseGet d (sparseErase m a) b = if a = b then d else sparseGet d m b := by
  induction m with
  | nil => simp [sparseErase, sparseGet]
  | cons c t ih =>
    obtain ⟨k, x⟩ := c
    by_cases hk : k = a
    · subst hk
      by_cases hb : k = b <;> simp_all [sparseErase, sparseGet]
    · by_cases hb : k = b
      · subst hb
        simp [sparseErase, sparseGet, hk, Ne.symm hk]
      · simp [sparseErase, sparseGet, hk, hb, ih]

theorem sparseGet_insert (m : List (Nat × α)) (a b : Nat) (v : α) (h : ∀ c ∈ m, c.1 ≠ a) :
    sparseGet d (sparseInsert m a v) b = if a = b then v else sparseGet d m b := by
  induction m with
  | nil => simp [sparseInsert, sparseGet]
  | cons c t ih =>
    obtain ⟨k, x⟩ := c
    have hk : k ≠ a := h (k, x) (List.mem_cons_self ..)
    have ht : ∀ c ∈ t, c.1 ≠ a := fun c hc => h c (List.mem_cons_of_mem _ hc)
    by_cases hlt : a < k
    · simp [sparseInsert, sparseGet, hlt]
    · by_cases hb : k = b
      · subst hb
        simp [sparseInsert, sparseGet, hlt, Ne.symm hk]
      · simp [sparseInsert, sparseGet, hlt, hb, ih ht]

end Read

theorem sparseErase_mem {α : Type} (m : List (Nat × α)) (a : Nat) (c : Nat × α) :
    c ∈ sparseErase m a ↔ c ∈ m ∧ c.1 ≠ a := by
  induction m with
  | nil => simp [sparseErase]
  | cons e t ih =>
    obtain ⟨k, x⟩ := e
    by_cases hk : k = a
    · subst hk
      simp only [sparseErase, if_true, ih, List.mem_cons]
      constructor
      · rintro ⟨h1, h2⟩; exact ⟨.inr h1, h2⟩
      · rintro ⟨rfl | h1, h2⟩
        · exact absurd rfl h2
        · exact ⟨h1, h2⟩
    · simp only [sparseErase, hk, if_false, List.mem_cons, ih]
      constructor
      · rintro (rfl | ⟨h1, h2⟩)
        · exact ⟨.inl rfl, hk⟩
        · exact ⟨.inr h1, h2⟩
      · rintro ⟨rfl | h1, h2⟩
        · exact .inl rfl
        · exact .inr ⟨h1, h2⟩

theorem sparseInsert_mem {α : Type} (m : List (Nat × α)) (a : Nat) (v : α) (c : Nat × α) :
    c ∈ sparseInsert m a v ↔ c = (a, v) ∨ c ∈ m := by
  induction m with
  | nil => simp [sparseInsert]
  | cons e t ih =>
    obtain ⟨k, x⟩ := e
    by_cases hlt : a < k
    · simp [sparseInsert, hlt]
    · simp only [sparseInsert, hlt, if_false, List.mem_cons, ih]
      tauto

variable {α : Type} [DecidableEq α] (d : α)

/-- A key reads what was last written to it, and every other key is unchanged. -/
theorem sparseGet_set (m : List (Nat × α)) (a b : Nat) (v : α) :
    sparseGet d (sparseSet d m a v) b = if a = b then v else sparseGet d m b := by
  by_cases hv : v = d
  · subst hv
    simp [sparseSet, sparseGet_erase]
  · have h : ∀ c ∈ sparseErase m a, c.1 ≠ a := fun c hc => ((sparseErase_mem m a c).1 hc).2
    simp only [sparseSet, hv, if_false, sparseGet_insert d _ a b v h, sparseGet_erase]
    split <;> simp_all

/-- An entry after a write is the new one or an old one. -/
theorem sparseSet_mem (m : List (Nat × α)) (a : Nat) (v : α) (c : Nat × α) (h : c ∈ sparseSet d m a v) :
    c = (a, v) ∨ c ∈ m := by
  by_cases hv : v = d
  · subst hv
    simp only [sparseSet, if_true, sparseErase_mem] at h
    exact .inr h.1
  · simp only [sparseSet, hv, if_false, sparseInsert_mem, sparseErase_mem] at h
    exact h.imp id And.left

theorem sparseWf_cons (k : Nat) (x : α) (t : List (Nat × α)) :
    sparseWf d ((k, x) :: t) = true ↔ x ≠ d ∧ (∀ c ∈ t, k < c.1) ∧ sparseWf d t = true := by
  simp [sparseWf, and_assoc]

theorem sparseErase_wf (m : List (Nat × α)) (a : Nat) (h : sparseWf d m = true) : sparseWf d (sparseErase m a) = true := by
  induction m with
  | nil => rfl
  | cons e t ih =>
    obtain ⟨k, x⟩ := e
    obtain ⟨hx, hk, ht⟩ := (sparseWf_cons d k x t).1 h
    by_cases hka : k = a
    · simpa [sparseErase, hka] using ih ht
    · simp only [sparseErase, hka, if_false]
      exact (sparseWf_cons d _ _ _).2 ⟨hx, fun c hc => hk c ((sparseErase_mem t a c).1 hc).1, ih ht⟩

theorem sparseInsert_wf (m : List (Nat × α)) (a : Nat) (v : α) (hv : v ≠ d) (hne : ∀ c ∈ m, c.1 ≠ a)
    (h : sparseWf d m = true) : sparseWf d (sparseInsert m a v) = true := by
  induction m with
  | nil => simp [sparseInsert, sparseWf, hv]
  | cons e t ih =>
    obtain ⟨k, x⟩ := e
    obtain ⟨hx, hk, ht⟩ := (sparseWf_cons d k x t).1 h
    have hka : k ≠ a := hne (k, x) (List.mem_cons_self ..)
    by_cases hlt : a < k
    · simp only [sparseInsert, hlt, if_true]
      refine (sparseWf_cons d _ _ _).2 ⟨hv, fun c hc => ?_, h⟩
      rcases List.mem_cons.1 hc with rfl | hc
      · exact hlt
      · exact Nat.lt_trans hlt (hk c hc)
    · simp only [sparseInsert, hlt, if_false]
      refine (sparseWf_cons d _ _ _).2 ⟨hx, fun c hc => ?_, ih (fun c hc => hne c (List.mem_cons_of_mem _ hc)) ht⟩
      rcases (sparseInsert_mem t a v c).1 hc with rfl | hc
      · show k < a
        omega
      · exact hk c hc

/-- A write keeps the canonical form. -/
theorem sparseSet_wf (m : List (Nat × α)) (a : Nat) (v : α) (h : sparseWf d m = true) :
    sparseWf d (sparseSet d m a v) = true := by
  by_cases hv : v = d
  · simpa [sparseSet, hv] using sparseErase_wf d m a h
  · simp only [sparseSet, hv, if_false]
    exact sparseInsert_wf d _ a v hv (fun c hc => ((sparseErase_mem m a c).1 hc).2) (sparseErase_wf d m a h)

/-- Setting a list of keys one after the other keeps the canonical form. -/
theorem sparseSetAll_wf (l m : List (Nat × α)) (h : sparseWf d m = true) :
    sparseWf d (l.foldl (fun m c => sparseSet d m c.1 c.2) m) = true := by
  induction l generalizing m with
  | nil => exact h
  | cons c rest ih => exact ih _ (sparseSet_wf d m c.1 c.2 h)

/-- Dropping entries keeps the canonical form. -/
theorem sparseFilter_wf (m : List (Nat × α)) (p : Nat × α → Bool) (h : sparseWf d m = true) :
    sparseWf d (m.filter p) = true := by
  induction m with
  | nil => rfl
  | cons e t ih =>
    obtain ⟨k, x⟩ := e
    obtain ⟨hx, hk, ht⟩ := (sparseWf_cons d k x t).1 h
    by_cases hp : p (k, x) = true
    · simp only [List.filter_cons, hp, if_true]
      exact (sparseWf_cons d _ _ _).2 ⟨hx, fun c hc => hk c (List.mem_filter.1 hc).1, ih ht⟩
    · simp only [List.filter_cons, hp]
      exact ih ht

/-- Filling keeps the canonical form. -/
theorem sparseFill_wf (m : List (Nat × α)) (key : Nat → Nat) (g : Nat → Option α) (n : Nat) (h : sparseWf d m = true) :
    sparseWf d (sparseFill d m key g n) = true := by
  induction n with
  | zero => exact h
  | succ n ih =>
    simp only [sparseFill]
    split
    · exact sparseSet_wf d _ _ _ ih
    · exact ih

/-- An entry after filling is an old one or at one of the filled keys. -/
theorem sparseFill_mem (m : List (Nat × α)) (key : Nat → Nat) (g : Nat → Option α) (n : Nat) (c : Nat × α)
    (h : c ∈ sparseFill d m key g n) : c ∈ m ∨ ∃ e < n, c.1 = key e := by
  induction n with
  | zero => exact .inl h
  | succ n ih =>
    simp only [sparseFill] at h
    split at h
    · rcases sparseSet_mem d _ _ _ _ h with rfl | h
      · exact .inr ⟨n, Nat.lt_succ_self n, rfl⟩
      · exact (ih h).imp id fun ⟨e, he, hc⟩ => ⟨e, Nat.lt_succ_of_lt he, hc⟩
    · exact (ih h).imp id fun ⟨e, he, hc⟩ => ⟨e, Nat.lt_succ_of_lt he, hc⟩

/-- A key that filling does not name is unchanged. -/
theorem sparseGet_fill_other (m : List (Nat × α)) (key : Nat → Nat) (g : Nat → Option α) (n b : Nat)
    (h : ∀ e < n, key e ≠ b) : sparseGet d (sparseFill d m key g n) b = sparseGet d m b := by
  induction n with
  | zero => rfl
  | succ n ih =>
    have hn := h n (Nat.lt_succ_self n)
    have ih := ih (fun e he => h e (Nat.lt_succ_of_lt he))
    simp only [sparseFill]
    split
    · rw [sparseGet_set, if_neg hn, ih]
    · exact ih

/-- What a filled key reads, where the keys differ. -/
theorem sparseGet_fill (m : List (Nat × α)) (key : Nat → Nat) (g : Nat → Option α) (hkey : ∀ a b, key a = key b → a = b)
    (n e : Nat) :
    sparseGet d (sparseFill d m key g n) (key e) = if e < n then (g e).getD (sparseGet d m (key e)) else
      sparseGet d m (key e) := by
  induction n with
  | zero => simp [sparseFill]
  | succ n ih =>
    simp only [sparseFill]
    by_cases hen : e = n
    · subst hen
      have hother : sparseGet d (sparseFill d m key g e) (key e) = sparseGet d m (key e) := by
        rw [ih, if_neg (Nat.lt_irrefl e)]
      split <;> simp_all [sparseGet_set]
    · have hne : key n ≠ key e := fun hk => hen (hkey _ _ hk).symm
      have hlt : e < n + 1 ↔ e < n := by omega
      split
      · simp only [sparseGet_set, if_neg hne, ih, hlt]
      · simp only [ih, hlt]

end Sys2Proof.Machine
end

