-- ==== Sys2Proof/Laws/State.lean ====
section
/-! SUPPORT. One lemma per field that an update of the state leaves unchanged, so that no proof unfolds an update. -/

namespace Sys2Proof.Machine

@[simp] theorem State.setReg_ip (s : State) (r : RegNo) (w : Word) : (s.setReg r w).ip = s.ip := by
  unfold State.setReg; split <;> rfl
@[simp] theorem State.setReg_vregs (s : State) (r : RegNo) (w : Word) : (s.setReg r w).vregs = s.vregs := by
  unfold State.setReg; split <;> rfl
@[simp] theorem State.setReg_vl (s : State) (r : RegNo) (w : Word) : (s.setReg r w).vl = s.vl := by
  unfold State.setReg; split <;> rfl
@[simp] theorem State.setReg_vm (s : State) (r : RegNo) (w : Word) : (s.setReg r w).vm = s.vm := by
  unfold State.setReg; split <;> rfl
@[simp] theorem State.setReg_pmstack (s : State) (r : RegNo) (w : Word) : (s.setReg r w).pmstack = s.pmstack := by
  unfold State.setReg; split <;> rfl
@[simp] theorem State.setReg_cause (s : State) (r : RegNo) (w : Word) : (s.setReg r w).cause = s.cause := by
  unfold State.setReg; split <;> rfl
@[simp] theorem State.setReg_badaddr (s : State) (r : RegNo) (w : Word) : (s.setReg r w).badaddr = s.badaddr := by
  unfold State.setReg; split <;> rfl
@[simp] theorem State.setReg_eip (s : State) (r : RegNo) (w : Word) : (s.setReg r w).eip = s.eip := by
  unfold State.setReg; split <;> rfl
@[simp] theorem State.setReg_tvec (s : State) (r : RegNo) (w : Word) : (s.setReg r w).tvec = s.tvec := by
  unfold State.setReg; split <;> rfl
@[simp] theorem State.setReg_sem (s : State) (r : RegNo) (w : Word) : (s.setReg r w).sem = s.sem := by
  unfold State.setReg; split <;> rfl
@[simp] theorem State.setReg_csrs (s : State) (r : RegNo) (w : Word) : (s.setReg r w).csrs = s.csrs := by
  unfold State.setReg; split <;> rfl
@[simp] theorem State.setReg_queues (s : State) (r : RegNo) (w : Word) : (s.setReg r w).queues = s.queues := by
  unfold State.setReg; split <;> rfl
@[simp] theorem State.setReg_tlb (s : State) (r : RegNo) (w : Word) : (s.setReg r w).tlb = s.tlb := by
  unfold State.setReg; split <;> rfl
@[simp] theorem State.setReg_dcacheEnable (s : State) (r : RegNo) (w : Word) : (s.setReg r w).dcacheEnable = s.dcacheEnable := by
  unfold State.setReg; split <;> rfl
@[simp] theorem State.setReg_coeff (s : State) (r : RegNo) (w : Word) : (s.setReg r w).coeff = s.coeff := by
  unfold State.setReg; split <;> rfl
@[simp] theorem State.setReg_waiting (s : State) (r : RegNo) (w : Word) : (s.setReg r w).waiting = s.waiting := by
  unfold State.setReg; split <;> rfl
@[simp] theorem State.setReg_mem (s : State) (r : RegNo) (w : Word) : (s.setReg r w).mem = s.mem := by
  unfold State.setReg; split <;> rfl
@[simp] theorem State.setReg_stale (s : State) (r : RegNo) (w : Word) : (s.setReg r w).stale = s.stale := by
  unfold State.setReg; split <;> rfl
@[simp] theorem State.setReg_device (s : State) (r : RegNo) (w : Word) : (s.setReg r w).device = s.device := by
  unfold State.setReg; split <;> rfl
@[simp] theorem State.setReg_deviceOut (s : State) (r : RegNo) (w : Word) : (s.setReg r w).deviceOut = s.deviceOut := by
  unfold State.setReg; split <;> rfl
@[simp] theorem State.setReg_irq (s : State) (r : RegNo) (w : Word) : (s.setReg r w).irq = s.irq := by
  unfold State.setReg; split <;> rfl
@[simp] theorem State.setReg_env (s : State) (r : RegNo) (w : Word) : (s.setReg r w).env = s.env := by
  unfold State.setReg; split <;> rfl
@[simp] theorem State.setReg_free (s : State) (r : RegNo) (w : Word) : (s.setReg r w).free = s.free := by
  unfold State.setReg; split <;> rfl
@[simp] theorem State.setReg_mods (s : State) (r : RegNo) (w : Word) : (s.setReg r w).mods = s.mods := by
  unfold State.setReg; split <;> rfl
@[simp] theorem State.setReg_cfg (s : State) (r : RegNo) (w : Word) : (s.setReg r w).cfg = s.cfg := by
  unfold State.setReg; split <;> rfl

@[simp] theorem State.setElem_regs (s : State) (r : RegNo) (e : Nat) (w : Word) : (s.setElem r e w).regs = s.regs := rfl
@[simp] theorem State.setElem_ip (s : State) (r : RegNo) (e : Nat) (w : Word) : (s.setElem r e w).ip = s.ip := rfl
@[simp] theorem State.setElem_vl (s : State) (r : RegNo) (e : Nat) (w : Word) : (s.setElem r e w).vl = s.vl := rfl
@[simp] theorem State.setElem_vm (s : State) (r : RegNo) (e : Nat) (w : Word) : (s.setElem r e w).vm = s.vm := rfl
@[simp] theorem State.setElem_pmstack (s : State) (r : RegNo) (e : Nat) (w : Word) : (s.setElem r e w).pmstack = s.pmstack := rfl
@[simp] theorem State.setElem_cause (s : State) (r : RegNo) (e : Nat) (w : Word) : (s.setElem r e w).cause = s.cause := rfl
@[simp] theorem State.setElem_badaddr (s : State) (r : RegNo) (e : Nat) (w : Word) : (s.setElem r e w).badaddr = s.badaddr := rfl
@[simp] theorem State.setElem_eip (s : State) (r : RegNo) (e : Nat) (w : Word) : (s.setElem r e w).eip = s.eip := rfl
@[simp] theorem State.setElem_tvec (s : State) (r : RegNo) (e : Nat) (w : Word) : (s.setElem r e w).tvec = s.tvec := rfl
@[simp] theorem State.setElem_sem (s : State) (r : RegNo) (e : Nat) (w : Word) : (s.setElem r e w).sem = s.sem := rfl
@[simp] theorem State.setElem_csrs (s : State) (r : RegNo) (e : Nat) (w : Word) : (s.setElem r e w).csrs = s.csrs := rfl
@[simp] theorem State.setElem_queues (s : State) (r : RegNo) (e : Nat) (w : Word) : (s.setElem r e w).queues = s.queues := rfl
@[simp] theorem State.setElem_tlb (s : State) (r : RegNo) (e : Nat) (w : Word) : (s.setElem r e w).tlb = s.tlb := rfl
@[simp] theorem State.setElem_dcacheEnable (s : State) (r : RegNo) (e : Nat) (w : Word) : (s.setElem r e w).dcacheEnable = s.dcacheEnable := rfl
@[simp] theorem State.setElem_coeff (s : State) (r : RegNo) (e : Nat) (w : Word) : (s.setElem r e w).coeff = s.coeff := rfl
@[simp] theorem State.setElem_waiting (s : State) (r : RegNo) (e : Nat) (w : Word) : (s.setElem r e w).waiting = s.waiting := rfl
@[simp] theorem State.setElem_mem (s : State) (r : RegNo) (e : Nat) (w : Word) : (s.setElem r e w).mem = s.mem := rfl
@[simp] theorem State.setElem_stale (s : State) (r : RegNo) (e : Nat) (w : Word) : (s.setElem r e w).stale = s.stale := rfl
@[simp] theorem State.setElem_device (s : State) (r : RegNo) (e : Nat) (w : Word) : (s.setElem r e w).device = s.device := rfl
@[simp] theorem State.setElem_deviceOut (s : State) (r : RegNo) (e : Nat) (w : Word) : (s.setElem r e w).deviceOut = s.deviceOut := rfl
@[simp] theorem State.setElem_irq (s : State) (r : RegNo) (e : Nat) (w : Word) : (s.setElem r e w).irq = s.irq := rfl
@[simp] theorem State.setElem_env (s : State) (r : RegNo) (e : Nat) (w : Word) : (s.setElem r e w).env = s.env := rfl
@[simp] theorem State.setElem_free (s : State) (r : RegNo) (e : Nat) (w : Word) : (s.setElem r e w).free = s.free := rfl
@[simp] theorem State.setElem_mods (s : State) (r : RegNo) (e : Nat) (w : Word) : (s.setElem r e w).mods = s.mods := rfl
@[simp] theorem State.setElem_cfg (s : State) (r : RegNo) (e : Nat) (w : Word) : (s.setElem r e w).cfg = s.cfg := rfl

@[simp] theorem State.setElems_regs (s : State) (r : RegNo) (n : Nat) (g : Nat → Option Word) : (s.setElems r n g).regs = s.regs := rfl
@[simp] theorem State.setElems_ip (s : State) (r : RegNo) (n : Nat) (g : Nat → Option Word) : (s.setElems r n g).ip = s.ip := rfl
@[simp] theorem State.setElems_vl (s : State) (r : RegNo) (n : Nat) (g : Nat → Option Word) : (s.setElems r n g).vl = s.vl := rfl
@[simp] theorem State.setElems_vm (s : State) (r : RegNo) (n : Nat) (g : Nat → Option Word) : (s.setElems r n g).vm = s.vm := rfl
@[simp] theorem State.setElems_pmstack (s : State) (r : RegNo) (n : Nat) (g : Nat → Option Word) : (s.setElems r n g).pmstack = s.pmstack := rfl
@[simp] theorem State.setElems_cause (s : State) (r : RegNo) (n : Nat) (g : Nat → Option Word) : (s.setElems r n g).cause = s.cause := rfl
@[simp] theorem State.setElems_badaddr (s : State) (r : RegNo) (n : Nat) (g : Nat → Option Word) : (s.setElems r n g).badaddr = s.badaddr := rfl
@[simp] theorem State.setElems_eip (s : State) (r : RegNo) (n : Nat) (g : Nat → Option Word) : (s.setElems r n g).eip = s.eip := rfl
@[simp] theorem State.setElems_tvec (s : State) (r : RegNo) (n : Nat) (g : Nat → Option Word) : (s.setElems r n g).tvec = s.tvec := rfl
@[simp] theorem State.setElems_sem (s : State) (r : RegNo) (n : Nat) (g : Nat → Option Word) : (s.setElems r n g).sem = s.sem := rfl
@[simp] theorem State.setElems_csrs (s : State) (r : RegNo) (n : Nat) (g : Nat → Option Word) : (s.setElems r n g).csrs = s.csrs := rfl
@[simp] theorem State.setElems_queues (s : State) (r : RegNo) (n : Nat) (g : Nat → Option Word) : (s.setElems r n g).queues = s.queues := rfl
@[simp] theorem State.setElems_tlb (s : State) (r : RegNo) (n : Nat) (g : Nat → Option Word) : (s.setElems r n g).tlb = s.tlb := rfl
@[simp] theorem State.setElems_dcacheEnable (s : State) (r : RegNo) (n : Nat) (g : Nat → Option Word) : (s.setElems r n g).dcacheEnable = s.dcacheEnable := rfl
@[simp] theorem State.setElems_coeff (s : State) (r : RegNo) (n : Nat) (g : Nat → Option Word) : (s.setElems r n g).coeff = s.coeff := rfl
@[simp] theorem State.setElems_waiting (s : State) (r : RegNo) (n : Nat) (g : Nat → Option Word) : (s.setElems r n g).waiting = s.waiting := rfl
@[simp] theorem State.setElems_mem (s : State) (r : RegNo) (n : Nat) (g : Nat → Option Word) : (s.setElems r n g).mem = s.mem := rfl
@[simp] theorem State.setElems_stale (s : State) (r : RegNo) (n : Nat) (g : Nat → Option Word) : (s.setElems r n g).stale = s.stale := rfl
@[simp] theorem State.setElems_device (s : State) (r : RegNo) (n : Nat) (g : Nat → Option Word) : (s.setElems r n g).device = s.device := rfl
@[simp] theorem State.setElems_deviceOut (s : State) (r : RegNo) (n : Nat) (g : Nat → Option Word) : (s.setElems r n g).deviceOut = s.deviceOut := rfl
@[simp] theorem State.setElems_irq (s : State) (r : RegNo) (n : Nat) (g : Nat → Option Word) : (s.setElems r n g).irq = s.irq := rfl
@[simp] theorem State.setElems_env (s : State) (r : RegNo) (n : Nat) (g : Nat → Option Word) : (s.setElems r n g).env = s.env := rfl
@[simp] theorem State.setElems_free (s : State) (r : RegNo) (n : Nat) (g : Nat → Option Word) : (s.setElems r n g).free = s.free := rfl
@[simp] theorem State.setElems_mods (s : State) (r : RegNo) (n : Nat) (g : Nat → Option Word) : (s.setElems r n g).mods = s.mods := rfl
@[simp] theorem State.setElems_cfg (s : State) (r : RegNo) (n : Nat) (g : Nat → Option Word) : (s.setElems r n g).cfg = s.cfg := rfl

@[simp] theorem State.setMask_regs (s : State) (m : MaskNo) (x : BitVec 128) : (s.setMask m x).regs = s.regs := rfl
@[simp] theorem State.setMask_ip (s : State) (m : MaskNo) (x : BitVec 128) : (s.setMask m x).ip = s.ip := rfl
@[simp] theorem State.setMask_vregs (s : State) (m : MaskNo) (x : BitVec 128) : (s.setMask m x).vregs = s.vregs := rfl
@[simp] theorem State.setMask_vl (s : State) (m : MaskNo) (x : BitVec 128) : (s.setMask m x).vl = s.vl := rfl
@[simp] theorem State.setMask_pmstack (s : State) (m : MaskNo) (x : BitVec 128) : (s.setMask m x).pmstack = s.pmstack := rfl
@[simp] theorem State.setMask_cause (s : State) (m : MaskNo) (x : BitVec 128) : (s.setMask m x).cause = s.cause := rfl
@[simp] theorem State.setMask_badaddr (s : State) (m : MaskNo) (x : BitVec 128) : (s.setMask m x).badaddr = s.badaddr := rfl
@[simp] theorem State.setMask_eip (s : State) (m : MaskNo) (x : BitVec 128) : (s.setMask m x).eip = s.eip := rfl
@[simp] theorem State.setMask_tvec (s : State) (m : MaskNo) (x : BitVec 128) : (s.setMask m x).tvec = s.tvec := rfl
@[simp] theorem State.setMask_sem (s : State) (m : MaskNo) (x : BitVec 128) : (s.setMask m x).sem = s.sem := rfl
@[simp] theorem State.setMask_csrs (s : State) (m : MaskNo) (x : BitVec 128) : (s.setMask m x).csrs = s.csrs := rfl
@[simp] theorem State.setMask_queues (s : State) (m : MaskNo) (x : BitVec 128) : (s.setMask m x).queues = s.queues := rfl
@[simp] theorem State.setMask_tlb (s : State) (m : MaskNo) (x : BitVec 128) : (s.setMask m x).tlb = s.tlb := rfl
@[simp] theorem State.setMask_dcacheEnable (s : State) (m : MaskNo) (x : BitVec 128) : (s.setMask m x).dcacheEnable = s.dcacheEnable := rfl
@[simp] theorem State.setMask_coeff (s : State) (m : MaskNo) (x : BitVec 128) : (s.setMask m x).coeff = s.coeff := rfl
@[simp] theorem State.setMask_waiting (s : State) (m : MaskNo) (x : BitVec 128) : (s.setMask m x).waiting = s.waiting := rfl
@[simp] theorem State.setMask_mem (s : State) (m : MaskNo) (x : BitVec 128) : (s.setMask m x).mem = s.mem := rfl
@[simp] theorem State.setMask_stale (s : State) (m : MaskNo) (x : BitVec 128) : (s.setMask m x).stale = s.stale := rfl
@[simp] theorem State.setMask_device (s : State) (m : MaskNo) (x : BitVec 128) : (s.setMask m x).device = s.device := rfl
@[simp] theorem State.setMask_deviceOut (s : State) (m : MaskNo) (x : BitVec 128) : (s.setMask m x).deviceOut = s.deviceOut := rfl
@[simp] theorem State.setMask_irq (s : State) (m : MaskNo) (x : BitVec 128) : (s.setMask m x).irq = s.irq := rfl
@[simp] theorem State.setMask_env (s : State) (m : MaskNo) (x : BitVec 128) : (s.setMask m x).env = s.env := rfl
@[simp] theorem State.setMask_free (s : State) (m : MaskNo) (x : BitVec 128) : (s.setMask m x).free = s.free := rfl
@[simp] theorem State.setMask_mods (s : State) (m : MaskNo) (x : BitVec 128) : (s.setMask m x).mods = s.mods := rfl
@[simp] theorem State.setMask_cfg (s : State) (m : MaskNo) (x : BitVec 128) : (s.setMask m x).cfg = s.cfg := rfl

@[simp] theorem State.setQueue_regs (s : State) (q : BitVec 6) (l : List Word) : (s.setQueue q l).regs = s.regs := rfl
@[simp] theorem State.setQueue_ip (s : State) (q : BitVec 6) (l : List Word) : (s.setQueue q l).ip = s.ip := rfl
@[simp] theorem State.setQueue_vregs (s : State) (q : BitVec 6) (l : List Word) : (s.setQueue q l).vregs = s.vregs := rfl
@[simp] theorem State.setQueue_vl (s : State) (q : BitVec 6) (l : List Word) : (s.setQueue q l).vl = s.vl := rfl
@[simp] theorem State.setQueue_vm (s : State) (q : BitVec 6) (l : List Word) : (s.setQueue q l).vm = s.vm := rfl
@[simp] theorem State.setQueue_pmstack (s : State) (q : BitVec 6) (l : List Word) : (s.setQueue q l).pmstack = s.pmstack := rfl
@[simp] theorem State.setQueue_cause (s : State) (q : BitVec 6) (l : List Word) : (s.setQueue q l).cause = s.cause := rfl
@[simp] theorem State.setQueue_badaddr (s : State) (q : BitVec 6) (l : List Word) : (s.setQueue q l).badaddr = s.badaddr := rfl
@[simp] theorem State.setQueue_eip (s : State) (q : BitVec 6) (l : List Word) : (s.setQueue q l).eip = s.eip := rfl
@[simp] theorem State.setQueue_tvec (s : State) (q : BitVec 6) (l : List Word) : (s.setQueue q l).tvec = s.tvec := rfl
@[simp] theorem State.setQueue_sem (s : State) (q : BitVec 6) (l : List Word) : (s.setQueue q l).sem = s.sem := rfl
@[simp] theorem State.setQueue_csrs (s : State) (q : BitVec 6) (l : List Word) : (s.setQueue q l).csrs = s.csrs := rfl
@[simp] theorem State.setQueue_tlb (s : State) (q : BitVec 6) (l : List Word) : (s.setQueue q l).tlb = s.tlb := rfl
@[simp] theorem State.setQueue_dcacheEnable (s : State) (q : BitVec 6) (l : List Word) : (s.setQueue q l).dcacheEnable = s.dcacheEnable := rfl
@[simp] theorem State.setQueue_coeff (s : State) (q : BitVec 6) (l : List Word) : (s.setQueue q l).coeff = s.coeff := rfl
@[simp] theorem State.setQueue_waiting (s : State) (q : BitVec 6) (l : List Word) : (s.setQueue q l).waiting = s.waiting := rfl
@[simp] theorem State.setQueue_mem (s : State) (q : BitVec 6) (l : List Word) : (s.setQueue q l).mem = s.mem := rfl
@[simp] theorem State.setQueue_stale (s : State) (q : BitVec 6) (l : List Word) : (s.setQueue q l).stale = s.stale := rfl
@[simp] theorem State.setQueue_device (s : State) (q : BitVec 6) (l : List Word) : (s.setQueue q l).device = s.device := rfl
@[simp] theorem State.setQueue_deviceOut (s : State) (q : BitVec 6) (l : List Word) : (s.setQueue q l).deviceOut = s.deviceOut := rfl
@[simp] theorem State.setQueue_irq (s : State) (q : BitVec 6) (l : List Word) : (s.setQueue q l).irq = s.irq := rfl
@[simp] theorem State.setQueue_env (s : State) (q : BitVec 6) (l : List Word) : (s.setQueue q l).env = s.env := rfl
@[simp] theorem State.setQueue_free (s : State) (q : BitVec 6) (l : List Word) : (s.setQueue q l).free = s.free := rfl
@[simp] theorem State.setQueue_mods (s : State) (q : BitVec 6) (l : List Word) : (s.setQueue q l).mods = s.mods := rfl
@[simp] theorem State.setQueue_cfg (s : State) (q : BitVec 6) (l : List Word) : (s.setQueue q l).cfg = s.cfg := rfl

@[simp] theorem State.setByte_regs (s : State) (p : Nat) (b : Byte) : (s.setByte p b).regs = s.regs := by
  unfold State.setByte; split <;> rfl
@[simp] theorem State.setByte_ip (s : State) (p : Nat) (b : Byte) : (s.setByte p b).ip = s.ip := by
  unfold State.setByte; split <;> rfl
@[simp] theorem State.setByte_vregs (s : State) (p : Nat) (b : Byte) : (s.setByte p b).vregs = s.vregs := by
  unfold State.setByte; split <;> rfl
@[simp] theorem State.setByte_vl (s : State) (p : Nat) (b : Byte) : (s.setByte p b).vl = s.vl := by
  unfold State.setByte; split <;> rfl
@[simp] theorem State.setByte_vm (s : State) (p : Nat) (b : Byte) : (s.setByte p b).vm = s.vm := by
  unfold State.setByte; split <;> rfl
@[simp] theorem State.setByte_pmstack (s : State) (p : Nat) (b : Byte) : (s.setByte p b).pmstack = s.pmstack := by
  unfold State.setByte; split <;> rfl
@[simp] theorem State.setByte_cause (s : State) (p : Nat) (b : Byte) : (s.setByte p b).cause = s.cause := by
  unfold State.setByte; split <;> rfl
@[simp] theorem State.setByte_badaddr (s : State) (p : Nat) (b : Byte) : (s.setByte p b).badaddr = s.badaddr := by
  unfold State.setByte; split <;> rfl
@[simp] theorem State.setByte_eip (s : State) (p : Nat) (b : Byte) : (s.setByte p b).eip = s.eip := by
  unfold State.setByte; split <;> rfl
@[simp] theorem State.setByte_tvec (s : State) (p : Nat) (b : Byte) : (s.setByte p b).tvec = s.tvec := by
  unfold State.setByte; split <;> rfl
@[simp] theorem State.setByte_sem (s : State) (p : Nat) (b : Byte) : (s.setByte p b).sem = s.sem := by
  unfold State.setByte; split <;> rfl
@[simp] theorem State.setByte_csrs (s : State) (p : Nat) (b : Byte) : (s.setByte p b).csrs = s.csrs := by
  unfold State.setByte; split <;> rfl
@[simp] theorem State.setByte_queues (s : State) (p : Nat) (b : Byte) : (s.setByte p b).queues = s.queues := by
  unfold State.setByte; split <;> rfl
@[simp] theorem State.setByte_tlb (s : State) (p : Nat) (b : Byte) : (s.setByte p b).tlb = s.tlb := by
  unfold State.setByte; split <;> rfl
@[simp] theorem State.setByte_dcacheEnable (s : State) (p : Nat) (b : Byte) : (s.setByte p b).dcacheEnable = s.dcacheEnable := by
  unfold State.setByte; split <;> rfl
@[simp] theorem State.setByte_coeff (s : State) (p : Nat) (b : Byte) : (s.setByte p b).coeff = s.coeff := by
  unfold State.setByte; split <;> rfl
@[simp] theorem State.setByte_waiting (s : State) (p : Nat) (b : Byte) : (s.setByte p b).waiting = s.waiting := by
  unfold State.setByte; split <;> rfl
@[simp] theorem State.setByte_device (s : State) (p : Nat) (b : Byte) : (s.setByte p b).device = s.device := by
  unfold State.setByte; split <;> rfl
@[simp] theorem State.setByte_irq (s : State) (p : Nat) (b : Byte) : (s.setByte p b).irq = s.irq := by
  unfold State.setByte; split <;> rfl
@[simp] theorem State.setByte_env (s : State) (p : Nat) (b : Byte) : (s.setByte p b).env = s.env := by
  unfold State.setByte; split <;> rfl
@[simp] theorem State.setByte_free (s : State) (p : Nat) (b : Byte) : (s.setByte p b).free = s.free := by
  unfold State.setByte; split <;> rfl
@[simp] theorem State.setByte_mods (s : State) (p : Nat) (b : Byte) : (s.setByte p b).mods = s.mods := by
  unfold State.setByte; split <;> rfl
@[simp] theorem State.setByte_cfg (s : State) (p : Nat) (b : Byte) : (s.setByte p b).cfg = s.cfg := by
  unfold State.setByte; split <;> rfl

@[simp] theorem State.jump_regs (s : State) (t : Word) : (s.jump t).regs = s.regs := rfl
@[simp] theorem State.jump_vregs (s : State) (t : Word) : (s.jump t).vregs = s.vregs := rfl
@[simp] theorem State.jump_vl (s : State) (t : Word) : (s.jump t).vl = s.vl := rfl
@[simp] theorem State.jump_vm (s : State) (t : Word) : (s.jump t).vm = s.vm := rfl
@[simp] theorem State.jump_pmstack (s : State) (t : Word) : (s.jump t).pmstack = s.pmstack := rfl
@[simp] theorem State.jump_cause (s : State) (t : Word) : (s.jump t).cause = s.cause := rfl
@[simp] theorem State.jump_badaddr (s : State) (t : Word) : (s.jump t).badaddr = s.badaddr := rfl
@[simp] theorem State.jump_eip (s : State) (t : Word) : (s.jump t).eip = s.eip := rfl
@[simp] theorem State.jump_tvec (s : State) (t : Word) : (s.jump t).tvec = s.tvec := rfl
@[simp] theorem State.jump_sem (s : State) (t : Word) : (s.jump t).sem = s.sem := rfl
@[simp] theorem State.jump_csrs (s : State) (t : Word) : (s.jump t).csrs = s.csrs := rfl
@[simp] theorem State.jump_queues (s : State) (t : Word) : (s.jump t).queues = s.queues := rfl
@[simp] theorem State.jump_tlb (s : State) (t : Word) : (s.jump t).tlb = s.tlb := rfl
@[simp] theorem State.jump_dcacheEnable (s : State) (t : Word) : (s.jump t).dcacheEnable = s.dcacheEnable := rfl
@[simp] theorem State.jump_coeff (s : State) (t : Word) : (s.jump t).coeff = s.coeff := rfl
@[simp] theorem State.jump_waiting (s : State) (t : Word) : (s.jump t).waiting = s.waiting := rfl
@[simp] theorem State.jump_mem (s : State) (t : Word) : (s.jump t).mem = s.mem := rfl
@[simp] theorem State.jump_stale (s : State) (t : Word) : (s.jump t).stale = s.stale := rfl
@[simp] theorem State.jump_device (s : State) (t : Word) : (s.jump t).device = s.device := rfl
@[simp] theorem State.jump_deviceOut (s : State) (t : Word) : (s.jump t).deviceOut = s.deviceOut := rfl
@[simp] theorem State.jump_irq (s : State) (t : Word) : (s.jump t).irq = s.irq := rfl
@[simp] theorem State.jump_env (s : State) (t : Word) : (s.jump t).env = s.env := rfl
@[simp] theorem State.jump_free (s : State) (t : Word) : (s.jump t).free = s.free := rfl
@[simp] theorem State.jump_cfg (s : State) (t : Word) : (s.jump t).cfg = s.cfg := rfl

@[simp] theorem State.advance_regs (s : State) : s.advance.regs = s.regs := rfl
@[simp] theorem State.advance_vregs (s : State) : s.advance.vregs = s.vregs := rfl
@[simp] theorem State.advance_vl (s : State) : s.advance.vl = s.vl := rfl
@[simp] theorem State.advance_vm (s : State) : s.advance.vm = s.vm := rfl
@[simp] theorem State.advance_pmstack (s : State) : s.advance.pmstack = s.pmstack := rfl
@[simp] theorem State.advance_cause (s : State) : s.advance.cause = s.cause := rfl
@[simp] theorem State.advance_badaddr (s : State) : s.advance.badaddr = s.badaddr := rfl
@[simp] theorem State.advance_eip (s : State) : s.advance.eip = s.eip := rfl
@[simp] theorem State.advance_tvec (s : State) : s.advance.tvec = s.tvec := rfl
@[simp] theorem State.advance_sem (s : State) : s.advance.sem = s.sem := rfl
@[simp] theorem State.advance_csrs (s : State) : s.advance.csrs = s.csrs := rfl
@[simp] theorem State.advance_queues (s : State) : s.advance.queues = s.queues := rfl
@[simp] theorem State.advance_tlb (s : State) : s.advance.tlb = s.tlb := rfl
@[simp] theorem State.advance_dcacheEnable (s : State) : s.advance.dcacheEnable = s.dcacheEnable := rfl
@[simp] theorem State.advance_coeff (s : State) : s.advance.coeff = s.coeff := rfl
@[simp] theorem State.advance_waiting (s : State) : s.advance.waiting = s.waiting := rfl
@[simp] theorem State.advance_mem (s : State) : s.advance.mem = s.mem := rfl
@[simp] theorem State.advance_stale (s : State) : s.advance.stale = s.stale := rfl
@[simp] theorem State.advance_device (s : State) : s.advance.device = s.device := rfl
@[simp] theorem State.advance_deviceOut (s : State) : s.advance.deviceOut = s.deviceOut := rfl
@[simp] theorem State.advance_irq (s : State) : s.advance.irq = s.irq := rfl
@[simp] theorem State.advance_env (s : State) : s.advance.env = s.env := rfl
@[simp] theorem State.advance_free (s : State) : s.advance.free = s.free := rfl
@[simp] theorem State.advance_cfg (s : State) : s.advance.cfg = s.cfg := rfl

@[simp] theorem State.takeTrap_regs (s : State) (c : Byte) : (s.takeTrap c).regs = s.regs := rfl
@[simp] theorem State.takeTrap_vregs (s : State) (c : Byte) : (s.takeTrap c).vregs = s.vregs := rfl
@[simp] theorem State.takeTrap_vl (s : State) (c : Byte) : (s.takeTrap c).vl = s.vl := rfl
@[simp] theorem State.takeTrap_vm (s : State) (c : Byte) : (s.takeTrap c).vm = s.vm := rfl
@[simp] theorem State.takeTrap_badaddr (s : State) (c : Byte) : (s.takeTrap c).badaddr = s.badaddr := rfl
@[simp] theorem State.takeTrap_tvec (s : State) (c : Byte) : (s.takeTrap c).tvec = s.tvec := rfl
@[simp] theorem State.takeTrap_sem (s : State) (c : Byte) : (s.takeTrap c).sem = s.sem := rfl
@[simp] theorem State.takeTrap_csrs (s : State) (c : Byte) : (s.takeTrap c).csrs = s.csrs := rfl
@[simp] theorem State.takeTrap_queues (s : State) (c : Byte) : (s.takeTrap c).queues = s.queues := rfl
@[simp] theorem State.takeTrap_tlb (s : State) (c : Byte) : (s.takeTrap c).tlb = s.tlb := rfl
@[simp] theorem State.takeTrap_dcacheEnable (s : State) (c : Byte) : (s.takeTrap c).dcacheEnable = s.dcacheEnable := rfl
@[simp] theorem State.takeTrap_coeff (s : State) (c : Byte) : (s.takeTrap c).coeff = s.coeff := rfl
@[simp] theorem State.takeTrap_waiting (s : State) (c : Byte) : (s.takeTrap c).waiting = s.waiting := rfl
@[simp] theorem State.takeTrap_mem (s : State) (c : Byte) : (s.takeTrap c).mem = s.mem := rfl
@[simp] theorem State.takeTrap_stale (s : State) (c : Byte) : (s.takeTrap c).stale = s.stale := rfl
@[simp] theorem State.takeTrap_device (s : State) (c : Byte) : (s.takeTrap c).device = s.device := rfl
@[simp] theorem State.takeTrap_deviceOut (s : State) (c : Byte) : (s.takeTrap c).deviceOut = s.deviceOut := rfl
@[simp] theorem State.takeTrap_irq (s : State) (c : Byte) : (s.takeTrap c).irq = s.irq := rfl
@[simp] theorem State.takeTrap_env (s : State) (c : Byte) : (s.takeTrap c).env = s.env := rfl
@[simp] theorem State.takeTrap_free (s : State) (c : Byte) : (s.takeTrap c).free = s.free := rfl
@[simp] theorem State.takeTrap_cfg (s : State) (c : Byte) : (s.takeTrap c).cfg = s.cfg := rfl

@[simp] theorem State.raise_regs (s : State) (e : Exception) : (s.raise e).regs = s.regs := rfl
@[simp] theorem State.raise_vregs (s : State) (e : Exception) : (s.raise e).vregs = s.vregs := rfl
@[simp] theorem State.raise_vl (s : State) (e : Exception) : (s.raise e).vl = s.vl := rfl
@[simp] theorem State.raise_vm (s : State) (e : Exception) : (s.raise e).vm = s.vm := rfl
@[simp] theorem State.raise_badaddr (s : State) (e : Exception) : (s.raise e).badaddr = s.badaddr := rfl
@[simp] theorem State.raise_tvec (s : State) (e : Exception) : (s.raise e).tvec = s.tvec := rfl
@[simp] theorem State.raise_sem (s : State) (e : Exception) : (s.raise e).sem = s.sem := rfl
@[simp] theorem State.raise_csrs (s : State) (e : Exception) : (s.raise e).csrs = s.csrs := rfl
@[simp] theorem State.raise_queues (s : State) (e : Exception) : (s.raise e).queues = s.queues := rfl
@[simp] theorem State.raise_tlb (s : State) (e : Exception) : (s.raise e).tlb = s.tlb := rfl
@[simp] theorem State.raise_dcacheEnable (s : State) (e : Exception) : (s.raise e).dcacheEnable = s.dcacheEnable := rfl
@[simp] theorem State.raise_coeff (s : State) (e : Exception) : (s.raise e).coeff = s.coeff := rfl
@[simp] theorem State.raise_waiting (s : State) (e : Exception) : (s.raise e).waiting = s.waiting := rfl
@[simp] theorem State.raise_mem (s : State) (e : Exception) : (s.raise e).mem = s.mem := rfl
@[simp] theorem State.raise_stale (s : State) (e : Exception) : (s.raise e).stale = s.stale := rfl
@[simp] theorem State.raise_device (s : State) (e : Exception) : (s.raise e).device = s.device := rfl
@[simp] theorem State.raise_deviceOut (s : State) (e : Exception) : (s.raise e).deviceOut = s.deviceOut := rfl
@[simp] theorem State.raise_irq (s : State) (e : Exception) : (s.raise e).irq = s.irq := rfl
@[simp] theorem State.raise_env (s : State) (e : Exception) : (s.raise e).env = s.env := rfl
@[simp] theorem State.raise_free (s : State) (e : Exception) : (s.raise e).free = s.free := rfl
@[simp] theorem State.raise_cfg (s : State) (e : Exception) : (s.raise e).cfg = s.cfg := rfl

@[simp] theorem State.returnFromTrap_regs (s : State) (o : Word) (x : BitVec 6) : (s.returnFromTrap o x).regs = s.regs := rfl
@[simp] theorem State.returnFromTrap_vregs (s : State) (o : Word) (x : BitVec 6) : (s.returnFromTrap o x).vregs = s.vregs := rfl
@[simp] theorem State.returnFromTrap_vl (s : State) (o : Word) (x : BitVec 6) : (s.returnFromTrap o x).vl = s.vl := rfl
@[simp] theorem State.returnFromTrap_vm (s : State) (o : Word) (x : BitVec 6) : (s.returnFromTrap o x).vm = s.vm := rfl
@[simp] theorem State.returnFromTrap_cause (s : State) (o : Word) (x : BitVec 6) : (s.returnFromTrap o x).cause = s.cause := rfl
@[simp] theorem State.returnFromTrap_badaddr (s : State) (o : Word) (x : BitVec 6) : (s.returnFromTrap o x).badaddr = s.badaddr := rfl
@[simp] theorem State.returnFromTrap_eip (s : State) (o : Word) (x : BitVec 6) : (s.returnFromTrap o x).eip = s.eip := rfl
@[simp] theorem State.returnFromTrap_tvec (s : State) (o : Word) (x : BitVec 6) : (s.returnFromTrap o x).tvec = s.tvec := rfl
@[simp] theorem State.returnFromTrap_csrs (s : State) (o : Word) (x : BitVec 6) : (s.returnFromTrap o x).csrs = s.csrs := rfl
@[simp] theorem State.returnFromTrap_queues (s : State) (o : Word) (x : BitVec 6) : (s.returnFromTrap o x).queues = s.queues := rfl
@[simp] theorem State.returnFromTrap_tlb (s : State) (o : Word) (x : BitVec 6) : (s.returnFromTrap o x).tlb = s.tlb := rfl
@[simp] theorem State.returnFromTrap_dcacheEnable (s : State) (o : Word) (x : BitVec 6) : (s.returnFromTrap o x).dcacheEnable = s.dcacheEnable := rfl
@[simp] theorem State.returnFromTrap_coeff (s : State) (o : Word) (x : BitVec 6) : (s.returnFromTrap o x).coeff = s.coeff := rfl
@[simp] theorem State.returnFromTrap_waiting (s : State) (o : Word) (x : BitVec 6) : (s.returnFromTrap o x).waiting = s.waiting := rfl
@[simp] theorem State.returnFromTrap_mem (s : State) (o : Word) (x : BitVec 6) : (s.returnFromTrap o x).mem = s.mem := rfl
@[simp] theorem State.returnFromTrap_stale (s : State) (o : Word) (x : BitVec 6) : (s.returnFromTrap o x).stale = s.stale := rfl
@[simp] theorem State.returnFromTrap_device (s : State) (o : Word) (x : BitVec 6) : (s.returnFromTrap o x).device = s.device := rfl
@[simp] theorem State.returnFromTrap_deviceOut (s : State) (o : Word) (x : BitVec 6) : (s.returnFromTrap o x).deviceOut = s.deviceOut := rfl
@[simp] theorem State.returnFromTrap_irq (s : State) (o : Word) (x : BitVec 6) : (s.returnFromTrap o x).irq = s.irq := rfl
@[simp] theorem State.returnFromTrap_env (s : State) (o : Word) (x : BitVec 6) : (s.returnFromTrap o x).env = s.env := rfl
@[simp] theorem State.returnFromTrap_free (s : State) (o : Word) (x : BitVec 6) : (s.returnFromTrap o x).free = s.free := rfl
@[simp] theorem State.returnFromTrap_cfg (s : State) (o : Word) (x : BitVec 6) : (s.returnFromTrap o x).cfg = s.cfg := rfl

@[simp] theorem State.redirect_regs (s : State) (m : Mode) (e : BitVec 4) : (s.redirect m e).regs = s.regs := rfl
@[simp] theorem State.redirect_vregs (s : State) (m : Mode) (e : BitVec 4) : (s.redirect m e).vregs = s.vregs := rfl
@[simp] theorem State.redirect_vl (s : State) (m : Mode) (e : BitVec 4) : (s.redirect m e).vl = s.vl := rfl
@[simp] theorem State.redirect_vm (s : State) (m : Mode) (e : BitVec 4) : (s.redirect m e).vm = s.vm := rfl
@[simp] theorem State.redirect_eip (s : State) (m : Mode) (e : BitVec 4) : (s.redirect m e).eip = s.eip := rfl
@[simp] theorem State.redirect_tvec (s : State) (m : Mode) (e : BitVec 4) : (s.redirect m e).tvec = s.tvec := rfl
@[simp] theorem State.redirect_sem (s : State) (m : Mode) (e : BitVec 4) : (s.redirect m e).sem = s.sem := rfl
@[simp] theorem State.redirect_csrs (s : State) (m : Mode) (e : BitVec 4) : (s.redirect m e).csrs = s.csrs := rfl
@[simp] theorem State.redirect_queues (s : State) (m : Mode) (e : BitVec 4) : (s.redirect m e).queues = s.queues := rfl
@[simp] theorem State.redirect_tlb (s : State) (m : Mode) (e : BitVec 4) : (s.redirect m e).tlb = s.tlb := rfl
@[simp] theorem State.redirect_dcacheEnable (s : State) (m : Mode) (e : BitVec 4) : (s.redirect m e).dcacheEnable = s.dcacheEnable := rfl
@[simp] theorem State.redirect_coeff (s : State) (m : Mode) (e : BitVec 4) : (s.redirect m e).coeff = s.coeff := rfl
@[simp] theorem State.redirect_waiting (s : State) (m : Mode) (e : BitVec 4) : (s.redirect m e).waiting = s.waiting := rfl
@[simp] theorem State.redirect_mem (s : State) (m : Mode) (e : BitVec 4) : (s.redirect m e).mem = s.mem := rfl
@[simp] theorem State.redirect_stale (s : State) (m : Mode) (e : BitVec 4) : (s.redirect m e).stale = s.stale := rfl
@[simp] theorem State.redirect_device (s : State) (m : Mode) (e : BitVec 4) : (s.redirect m e).device = s.device := rfl
@[simp] theorem State.redirect_deviceOut (s : State) (m : Mode) (e : BitVec 4) : (s.redirect m e).deviceOut = s.deviceOut := rfl
@[simp] theorem State.redirect_irq (s : State) (m : Mode) (e : BitVec 4) : (s.redirect m e).irq = s.irq := rfl
@[simp] theorem State.redirect_env (s : State) (m : Mode) (e : BitVec 4) : (s.redirect m e).env = s.env := rfl
@[simp] theorem State.redirect_free (s : State) (m : Mode) (e : BitVec 4) : (s.redirect m e).free = s.free := rfl
@[simp] theorem State.redirect_cfg (s : State) (m : Mode) (e : BitVec 4) : (s.redirect m e).cfg = s.cfg := rfl

@[simp] theorem State.csrWrite_regs (s : State) (r : CsrReg) (w : Word) : (s.csrWrite r w).regs = s.regs := by
  cases r <;> rfl
@[simp] theorem State.csrWrite_ip (s : State) (r : CsrReg) (w : Word) : (s.csrWrite r w).ip = s.ip := by
  cases r <;> rfl
@[simp] theorem State.csrWrite_vregs (s : State) (r : CsrReg) (w : Word) : (s.csrWrite r w).vregs = s.vregs := by
  cases r <;> rfl
@[simp] theorem State.csrWrite_vm (s : State) (r : CsrReg) (w : Word) : (s.csrWrite r w).vm = s.vm := by
  cases r <;> rfl
@[simp] theorem State.csrWrite_queues (s : State) (r : CsrReg) (w : Word) : (s.csrWrite r w).queues = s.queues := by
  cases r <;> rfl
@[simp] theorem State.csrWrite_tlb (s : State) (r : CsrReg) (w : Word) : (s.csrWrite r w).tlb = s.tlb := by
  cases r <;> rfl
@[simp] theorem State.csrWrite_coeff (s : State) (r : CsrReg) (w : Word) : (s.csrWrite r w).coeff = s.coeff := by
  cases r <;> rfl
@[simp] theorem State.csrWrite_waiting (s : State) (r : CsrReg) (w : Word) : (s.csrWrite r w).waiting = s.waiting := by
  cases r <;> rfl
@[simp] theorem State.csrWrite_mem (s : State) (r : CsrReg) (w : Word) : (s.csrWrite r w).mem = s.mem := by
  cases r <;> rfl
@[simp] theorem State.csrWrite_stale (s : State) (r : CsrReg) (w : Word) : (s.csrWrite r w).stale = s.stale := by
  cases r <;> rfl
@[simp] theorem State.csrWrite_device (s : State) (r : CsrReg) (w : Word) : (s.csrWrite r w).device = s.device := by
  cases r <;> rfl
@[simp] theorem State.csrWrite_deviceOut (s : State) (r : CsrReg) (w : Word) : (s.csrWrite r w).deviceOut = s.deviceOut := by
  cases r <;> rfl
@[simp] theorem State.csrWrite_irq (s : State) (r : CsrReg) (w : Word) : (s.csrWrite r w).irq = s.irq := by
  cases r <;> rfl
@[simp] theorem State.csrWrite_env (s : State) (r : CsrReg) (w : Word) : (s.csrWrite r w).env = s.env := by
  cases r <;> rfl
@[simp] theorem State.csrWrite_free (s : State) (r : CsrReg) (w : Word) : (s.csrWrite r w).free = s.free := by
  cases r <;> rfl
@[simp] theorem State.csrWrite_mods (s : State) (r : CsrReg) (w : Word) : (s.csrWrite r w).mods = s.mods := by
  cases r <;> rfl
@[simp] theorem State.csrWrite_cfg (s : State) (r : CsrReg) (w : Word) : (s.csrWrite r w).cfg = s.cfg := by
  cases r <;> rfl

@[simp] theorem State.jump_ip (s : State) (t : Word) : (s.jump t).ip = t := rfl
@[simp] theorem State.jump_mods (s : State) (t : Word) : (s.jump t).mods = Mods.empty := rfl
@[simp] theorem State.advance_ip (s : State) : s.advance.ip = s.ipNext := rfl
@[simp] theorem State.advance_mods (s : State) : s.advance.mods = Mods.empty := rfl
@[simp] theorem State.takeTrap_mods (s : State) (c : Byte) : (s.takeTrap c).mods = Mods.empty := rfl
@[simp] theorem State.raise_mods (s : State) (e : Exception) : (s.raise e).mods = Mods.empty := rfl
@[simp] theorem State.returnFromTrap_mods (s : State) (o : Word) (x : BitVec 6) :
    (s.returnFromTrap o x).mods = Mods.empty := rfl
@[simp] theorem State.redirect_mods (s : State) (m : Mode) (e : BitVec 4) : (s.redirect m e).mods = Mods.empty := rfl

end Sys2Proof.Machine
end

