-- ==== Sys2Proof/Laws/Ops.lean ====
section
/-! SUPPORT. What each shared operation does, said once: the register, element, mask and memory laws, and the frames of
the accesses. -/

namespace Sys2Proof.Machine

/-! ## Registers -/

/-- x0 reads as zero. -/
@[simp] theorem State.reg_zero (s : State) : s.reg 0#5 = 0#64 := by simp [State.reg]

/-- A register reads what was written to it, x0 zero; every other register is unchanged. -/
theorem State.reg_setReg (s : State) (r q : RegNo) (w : Word) :
    (s.setReg r w).reg q = if q = 0#5 then 0#64 else if q = r then w else s.reg q := by
  by_cases hq : q = 0#5
  · simp [State.reg, hq]
  · by_cases hr : r = 0#5
    · subst hr
      simp [State.setReg, hq]
    · by_cases hqr : q = r
      · subst hqr
        simp [State.setReg, State.reg, hq]
      · have hne : r.toNat ≠ q.toNat := fun h => hqr (BitVec.eq_of_toNat_eq h.symm)
        simp [State.setReg, State.reg, hq, hr, hqr, hne]

@[simp] theorem State.reg_advance (s : State) (q : RegNo) : s.advance.reg q = s.reg q := rfl
@[simp] theorem State.reg_jump (s : State) (t : Word) (q : RegNo) : (s.jump t).reg q = s.reg q := rfl
@[simp] theorem State.setReg_ipNext (s : State) (r : RegNo) (w : Word) : (s.setReg r w).ipNext = s.ipNext := by
  simp [State.ipNext]

/-- A register write followed by a jump has the frame `linkedAndJumped`. -/
theorem linkedAndJumped_setReg (s : State) (r : RegNo) (w t : Word) :
    linkedAndJumped r w t s ((s.setReg r w).jump t) := by
  refine ⟨?_, fun q => by rw [State.reg_jump, State.reg_setReg]⟩
  unfold State.setReg
  split <;> rfl

/-- A register write followed by an advance has the frame `wroteReg`. -/
theorem wroteReg_setReg (s : State) (r : RegNo) (w : Word) : wroteReg r w s (s.setReg r w).advance := by
  simpa [wroteReg, State.advance] using linkedAndJumped_setReg s r w s.ipNext

/-- An advance changes nothing else. -/
theorem onlyAdvanced_advance (s : State) : onlyAdvanced s s.advance := rfl

/-- A jump changes nothing else. -/
theorem onlyJumped_jump (s : State) (t : Word) : onlyJumped t s (s.jump t) := rfl

/-- Taking an exception has the frame `trapped`. -/
theorem trapped_takeTrap (s : State) (c : Byte) : trapped (c.setWidth 64) s (s.takeTrap c) := rfl

/-! ## Vector registers and masks -/

/-- Elements of different registers, and different elements, are held apart. -/
theorem elemKey_inj (r q : RegNo) (a b : Nat) : elemKey r a = elemKey q b ↔ r = q ∧ a = b := by
  have hr := r.isLt
  have hq := q.isLt
  constructor
  · intro h
    simp only [elemKey] at h
    exact ⟨BitVec.eq_of_toNat_eq (by omega), by omega⟩
  · rintro ⟨rfl, rfl⟩
    rfl

/-- An element reads what was written to it; every other element is unchanged. -/
theorem State.elem_setElem (s : State) (r q : RegNo) (a b : Nat) (w : Word) :
    (s.setElem r a w).elem q b = if q = r ∧ b = a then w else s.elem q b := by
  have h : (elemKey r a = elemKey q b) = (q = r ∧ b = a) :=
    propext (by rw [elemKey_inj]; exact ⟨fun ⟨x, y⟩ => ⟨x.symm, y.symm⟩, fun ⟨x, y⟩ => ⟨x.symm, y.symm⟩⟩)
  simp [State.elem, State.setElem, sparseGet_set, h]

/-- The elements below `n` read what `g` gives them; every other element is unchanged. -/
theorem State.elem_setElems (s : State) (r q : RegNo) (n : Nat) (g : Nat → Option Word) (b : Nat) :
    (s.setElems r n g).elem q b = if q = r ∧ b < n then (g b).getD (s.elem q b) else s.elem q b := by
  by_cases hq : q = r
  · subst hq
    simp only [State.elem, State.setElems, true_and]
    exact sparseGet_fill 0#64 s.vregs (elemKey q) g (fun a c h => ((elemKey_inj q q a c).1 h).2) n b
  · simp only [State.elem, State.setElems, hq, false_and, if_false]
    exact sparseGet_fill_other 0#64 s.vregs (elemKey r) g n (elemKey q b)
      (fun e _ h => hq ((elemKey_inj r q e b).1 h).1.symm)

@[simp] theorem State.elem_advance (s : State) (q : RegNo) (e : Nat) : s.advance.elem q e = s.elem q e := rfl

/-- A write of elements followed by an advance has the frame `wroteElems`. -/
theorem wroteElems_setElems (s : State) (r : RegNo) (g : Nat → Option Word) :
    wroteElems r g s (s.setElems r s.vlen g).advance :=
  ⟨rfl, fun q e => by rw [State.elem_advance, State.elem_setElems]⟩

/-- Masking twice is masking once. -/
theorem maskBits_idem (n : Nat) (x : BitVec 128) : x &&& maskBits n &&& maskBits n = x &&& maskBits n := by
  rw [BitVec.and_assoc, BitVec.and_self]

/-- A mask reads the VLMAX bits written to it; every other mask is unchanged. -/
theorem State.mask_setMask (s : State) (m q : MaskNo) (x : BitVec 128) :
    (s.setMask m x).mask q = if q = m then x &&& maskBits s.cfg.vlmax else s.mask q := by
  by_cases h : q = m
  · subst h
    simp [State.mask, State.setMask, maskBits_idem]
  · have hne : m.toNat ≠ q.toNat := fun e => h (BitVec.eq_of_toNat_eq e.symm)
    simp [State.mask, State.setMask, h, hne]

/-- A mask write followed by an advance has the frame `wroteMask`. -/
theorem wroteMask_setMask (s : State) (m : MaskNo) (x : BitVec 128) : wroteMask m x s (s.setMask m x).advance :=
  ⟨rfl, fun q => State.mask_setMask s m q x⟩

/-- The model's choice of an element's new value is the pages' (R550, R551). -/
theorem laneValue_eq_masked (s : State) (sel : MaskSel) (f : Nat → Word) (e : Nat) :
    s.laneValue sel f e = masked s sel f e := by
  rcases sel with _ | ⟨m, z⟩
  · rfl
  · by_cases h : (s.mask m).getLsbD e = true
    · simp [State.laneValue, masked, State.active, h]
    · simp [State.laneValue, masked, State.active, inactiveValue, zeroing, h]
      rfl

/-- What an element-wise operation answers in its scalar form. -/
theorem elementOp_scalar (rt : RegNo) (sel : MaskSel) (f : Nat → Word) (s : State) :
    elementOp false false rt false sel f s = .next (s.setReg rt (f 0)).advance := rfl

/-- What an element-wise operation answers in its vector form while VL is at most VLMAX. -/
theorem elementOp_vector (rt : RegNo) (vs : Bool) (sel : MaskSel) (f : Nat → Word) (s : State)
    (h : s.vlTooLong = false) :
    elementOp true true rt vs sel f s = .next (s.setElems rt s.vlen (s.laneValue sel f)).advance := by
  simp [elementOp, withVl, h]

/-! ## Memory -/

@[simp] theorem State.setByte_isDevice (s : State) (p q : Nat) (b : Byte) : (s.setByte p b).isDevice q = s.isDevice q := by
  unfold State.setByte; split <;> rfl

@[simp] theorem State.setByte_translate (s : State) (p : Nat) (b : Byte) (k : Access) (a : Word) :
    (s.setByte p b).translate k a = s.translate k a := by
  unfold State.setByte; split <;> rfl

@[simp] theorem State.setByte_physical (s : State) (p : Nat) (b : Byte) (k : Access) (a : Word) :
    (s.setByte p b).physical k a = s.physical k a := by
  unfold State.setByte; split <;> rfl

/-- A byte of memory reads what was stored to it; every other byte, and a device's, is unchanged. -/
theorem State.byteAt_setByte (s : State) (p q : Nat) (b : Byte) :
    (s.setByte p b).byteAt q = if p = q ∧ s.isDevice p = false then b else s.byteAt q := by
  by_cases hp : s.isDevice p = true
  · have : (s.setByte p b).byteAt q = s.byteAt q := by
      simp only [State.setByte, if_pos hp]
      rfl
    simp [this, hp]
  · by_cases hq : s.isDevice q = true
    · have hpq : p ≠ q := fun e => hp (e ▸ hq)
      have h1 : (s.setByte p b).byteAt q = sparseGet unlistedByte s.device q := by
        rw [State.byteAt, State.setByte_isDevice, if_pos hq]
        unfold State.setByte
        split <;> rfl
      rw [h1, if_neg (fun h => hpq h.1), State.byteAt, if_pos hq]
    · have h1 : (s.setByte p b).byteAt q = sparseGet unlistedByte (sparseSet unlistedByte s.mem p b) q := by
        rw [State.byteAt, State.setByte_isDevice, if_neg hq, State.setByte, if_neg hp]
      rw [h1, sparseGet_set, State.byteAt, if_neg hq]
      simp [hp]

/-- A stored byte of memory is stale; every other byte is as before. -/
theorem State.stale_setByte (s : State) (p q : Nat) (b : Byte) :
    sparseGet false (s.setByte p b).stale q =
      if p = q ∧ s.isDevice p = false then true else sparseGet false s.stale q := by
  by_cases hp : s.isDevice p = true <;> simp [State.setByte, hp, sparseGet_set]

/-- A byte stored to a device goes to the device. -/
theorem State.deviceOut_setByte (s : State) (p : Nat) (b : Byte) :
    (s.setByte p b).deviceOut = s.deviceOut ++ (if s.isDevice p then [(p, b)] else []) := by
  by_cases hp : s.isDevice p = true <;> simp [State.setByte, hp]

/-- A store changes only memory, the stale bytes and what went to devices. -/
theorem State.writeBytes_frame (n : Nat) (s t : State) (a w : Word) (h : s.writeBytes a w n = .ok t) :
    t = { s with mem := t.mem, stale := t.stale, deviceOut := t.deviceOut } := by
  induction n generalizing s a w with
  | zero =>
    cases h
    rfl
  | succ n ih =>
    simp only [State.writeBytes] at h
    split at h
    · cases h
    · rw [ih _ _ _ h]
      unfold State.setByte
      split <;> rfl

/-- A store answers a state where every byte of it reaches memory or a device. -/
theorem State.writeBytes_total (n : Nat) (s : State) (a w : Word)
    (h : ∀ i < n, ∃ p, s.physical .write (a + BitVec.ofNat 64 i) = .ok p) : ∃ t, s.writeBytes a w n = .ok t := by
  induction n generalizing s a w with
  | zero => exact ⟨s, rfl⟩
  | succ n ih =>
    obtain ⟨p, hp⟩ := h 0 (Nat.succ_pos n)
    simp only [BitVec.add_zero] at hp
    simp only [State.writeBytes, hp]
    refine ih _ _ _ fun i hi => ?_
    obtain ⟨q, hq⟩ := h (i + 1) (Nat.succ_lt_succ hi)
    refine ⟨q, ?_⟩
    rw [State.setByte_physical, BitVec.add_assoc, ← hq]
    congr 2
    apply BitVec.eq_of_toNat_eq
    simp [Nat.add_comm]

/-- The address of byte `i + 1` is that of byte `i` after the next. -/
theorem addr_succ (a : Word) (i : Nat) : a + 1#64 + BitVec.ofNat 64 i = a + BitVec.ofNat 64 (i + 1) := by
  rw [BitVec.add_assoc]
  congr 1
  apply BitVec.eq_of_toNat_eq
  simp [Nat.add_comm]

/-- A byte that a store does not reach, or a device's, is unchanged. -/
theorem State.writeBytes_other (n : Nat) (s t : State) (a w : Word) (p : Nat) (h : s.writeBytes a w n = .ok t)
    (hp : s.isDevice p = true ∨ ∀ i < n, s.physical .write (a + BitVec.ofNat 64 i) ≠ .ok p) :
    t.byteAt p = s.byteAt p ∧ sparseGet false t.stale p = sparseGet false s.stale p := by
  induction n generalizing s a w with
  | zero =>
    cases h
    exact ⟨rfl, rfl⟩
  | succ n ih =>
    simp only [State.writeBytes] at h
    split at h
    · cases h
    · rename_i q hq
      have hqp : ¬ (q = p ∧ s.isDevice q = false) := by
        rintro ⟨rfl, hd⟩
        rcases hp with hp | hp
        · rw [hp] at hd
          cases hd
        · have h0 := hp 0 (Nat.succ_pos n)
          simp only [BitVec.add_zero, hq] at h0
          exact h0 rfl
      have := ih _ _ _ h (hp.imp (by simp) fun hp i hi => by
        rw [State.setByte_physical, addr_succ]
        exact hp (i + 1) (Nat.succ_lt_succ hi))
      rw [State.byteAt_setByte, State.stale_setByte, if_neg hqp, if_neg hqp] at this
      exact this

/-! ## CSRs -/

/-- A CSR write reaches nothing but the registers that CSRs name (R84, R503). -/
theorem State.csrWrite_frame (s : State) (r : CsrReg) (w : Word) :
    s.csrWrite r w = { s with
      pmstack := (s.csrWrite r w).pmstack, eip := (s.csrWrite r w).eip, vl := (s.csrWrite r w).vl, sem := (s.csrWrite r w).sem
      dcacheEnable := (s.csrWrite r w).dcacheEnable, cause := (s.csrWrite r w).cause, badaddr := (s.csrWrite r w).badaddr
      tvec := (s.csrWrite r w).tvec, csrs := (s.csrWrite r w).csrs } := by
  cases r <;> rfl

/-! ## The environment's inputs -/

/-- An input changes the request, the inputs left, the trace queue and what devices read only. -/
theorem State.nextInput_frame (s : State) :
    s.nextInput = { s with
      irq := s.nextInput.irq, env := s.nextInput.env, queues := s.nextInput.queues, device := s.nextInput.device } := by
  unfold State.nextInput
  split
  · rfl
  · rename_i x _ _
    cases x.trace <;> cases x.device <;> rfl

end Sys2Proof.Machine
end

