-- ==== Sys2Proof/Laws/Shapes.lean ====
section
/-! SUPPORT. What each shape of instruction answers, said once in the words of Sys2Proof/Safety.lean: the element-wise
operations, the branches, loads and stores, in every case of their type codes. -/

namespace Sys2Proof.Machine

/-- An instruction under modifiers it takes. -/
theorem withMods_fit (u : ModUse) (s : State) (k : Out) (h : s.mods.fit u = true) : withMods u s k = k := by
  simp [withMods, h]

/-- An instruction under modifiers it does not take. -/
theorem withMods_unfit (u : ModUse) (s : State) (k : Out) (h : s.mods.fit u = false) :
    withMods u s k = .refused .modifierMisplaced := by
  simp [withMods, h]

/-- A next state comes only from under modifiers that the instruction takes. -/
theorem withMods_next {u : ModUse} {s t : State} {k : Out} (h : withMods u s k = .next t) :
    s.mods.fit u = true ∧ k = .next t := by
  unfold withMods at h
  split at h
  · exact ⟨by assumption, h⟩
  · cases h

/-- Misuse of a type code raises UnimplementedInstruction. -/
theorem misuse_raises (s : State) : nextWith (misuse s) (raisedUnimplemented s) := ⟨_, rfl, rfl⟩

theorem vlTooLong_iff (s : State) : s.vlTooLong = true ↔ s.cfg.vlmax < s.vl.toNat :=
  decide_eq_true_iff

/-- An instruction whose VL is at most VLMAX. -/
theorem withVl_le (s : State) (k : Out) (h : s.vl.toNat ≤ s.cfg.vlmax) : withVl s k = k := by
  have : ¬ s.cfg.vlmax < s.vl.toNat := Nat.not_lt.2 h
  rw [← vlTooLong_iff] at this
  simp [withVl, this]

/-- An instruction whose VL exceeds VLMAX. -/
theorem withVl_gt (s : State) (k : Out) (h : s.cfg.vlmax < s.vl.toNat) : withVl s k = .refused .vectorLength := by
  simp [withVl, (vlTooLong_iff s).2 h]

/-- Writing the elements that the pages' mask gives has the frame `wroteElems`. -/
theorem wroteElems_lanes (s : State) (rt : RegNo) (sel : MaskSel) (f : Nat → Word) :
    wroteElems rt (masked s sel f) s (s.setElems rt s.vlen (s.laneValue sel f)).advance := by
  rw [show s.laneValue sel f = masked s sel f from funext (laneValue_eq_masked s sel f)]
  exact wroteElems_setElems s rt _

/-- What an element-wise operation answers in each of its cases. -/
theorem elementOp_elementwise (s : State) (v tt vs : Bool) (rt : RegNo) (sel : MaskSel) (f : Nat → Word) :
    elementwise s v tt vs rt sel f (elementOp v tt rt vs sel f s) := by
  cases v <;> cases tt <;> cases vs <;> simp only [elementwise, elementOp, Bool.false_or, Bool.true_or, if_true,
    Bool.false_eq_true, if_false, or_false, or_true]
  case false.false.false => exact ⟨_, rfl, wroteReg_setReg s rt _⟩
  case true.true.true | true.true.false =>
    split
    · exact withVl_gt _ _ (by assumption)
    · rw [withVl_le _ _ (by omega)]
      exact ⟨_, rfl, wroteElems_lanes s rt sel f⟩
  all_goals exact misuse_raises s

/-- The formula of an element-wise operation in another form. -/
theorem elementwise_congr {s : State} {v tt vs : Bool} {rt : RegNo} {sel : MaskSel} {f g : Nat → Word} {o : Out}
    (h : ∀ e, f e = g e) (hf : elementwise s v tt vs rt sel f o) : elementwise s v tt vs rt sel g o := by
  rwa [show g = f from (funext h).symm]

/-- R1 format. -/
theorem r1Op_form (c : R1F → Instr) (g g' : Word → Word) (hc : ∀ f s, exec (c f) s = r1Op g' f s) (h : ∀ a, g' a = g a) :
    unaryForm c g := by
  intro f s hs
  rw [hc, r1Op, withMods_fit _ _ _ hs]
  exact elementwise_congr (fun e => h _) (elementOp_elementwise ..)

/-- R2 format. -/
theorem r2Op_form (c : R2F → Instr) (k : ConstKind) (g g' : Word → Word → Word)
    (hc : ∀ f s, exec (c f) s = r2Op k g' f s) (h : ∀ a b, g' a b = g a b) : binaryForm c k g := by
  intro f s hs
  rw [hc, r2Op, withMods_fit _ _ _ hs]
  exact elementwise_congr (fun e => h _ _) (elementOp_elementwise ..)

/-- R3 format. -/
theorem r3Op_form (c : R2F → Instr) (kb kc : ConstKind) (g g' : Word → Word → Word → Word)
    (hc : ∀ f s, exec (c f) s = r3Op kb kc g' f s) (h : ∀ a b c, g' a b c = g a b c) : ternaryForm c kb kc g := by
  intro f s hs
  rw [hc, r3Op, withMods_fit _ _ _ hs]
  exact elementwise_congr (fun e => h _ _ _) (elementOp_elementwise ..)

/-- R4 format. -/
theorem r4Op_form (c : R2F → Instr) (kb kc : ConstKind) (g g' : Word → Word → Word → Word → Word)
    (hc : ∀ f s, exec (c f) s = r4Op kb kc g' f s) (h : ∀ a b c d, g' a b c d = g a b c d) :
    quaternaryForm c kb kc g := by
  intro f s hs
  rw [hc, r4Op, withMods_fit _ _ _ hs]
  exact elementwise_congr (fun e => h _ _ _ _) (elementOp_elementwise ..)

/-- Shifts by a six-bit count. -/
theorem shiftOp_form (c : ShiftF → Instr) (g : Word → Nat → Word) (g' : Word → BitVec 6 → Word)
    (hc : ∀ f s, exec (c f) s = shiftOp g' f s) (h : ∀ a n, g' a n = g a n.toNat) : countForm c g := by
  intro f s hs
  rw [hc, shiftOp, withMods_fit _ _ _ hs]
  exact elementwise_congr (fun e => h _ _) (elementOp_elementwise ..)

/-- RI format. -/
theorem riOp_form (c : RIF → Instr) (ext ext' : BitVec 16 → Word) (g g' : Word → Word → Word)
    (hc : ∀ f s, exec (c f) s = riOp ext' g' f s) (he : ∀ x, ext' x = ext x) (h : ∀ a b, g' a b = g a b) :
    immediateForm c ext g := by
  intro f s hs
  rw [hc, riOp, withMods_fit _ _ _ hs]
  exact elementwise_congr (fun e => by rw [h, he]) (elementOp_elementwise ..)

/-! ## Memory -/

/-- The value of an access whose bytes all reach memory. -/
theorem State.readBytes_holds (s : State) (k : Access) (n : Nat) (a : Word) (hn : n ≤ 8)
    (h : ∀ i < n, ∃ p, s.physical k (a + BitVec.ofNat 64 i) = .ok p) :
    ∃ w, s.readBytes k a n = .ok w ∧ w.toNat < 2 ^ (8 * n) ∧
      ∀ i < n, ∀ p, s.physical k (a + BitVec.ofNat 64 i) = .ok p → w.extractLsb' (8 * i) 8 = s.byteAt p := by
  induction n generalizing a with
  | zero => exact ⟨0#64, rfl, by simp, fun i hi => absurd hi (Nat.not_lt_zero i)⟩
  | succ n ih =>
    obtain ⟨p, hp⟩ := h 0 (Nat.succ_pos n)
    simp only [BitVec.add_zero] at hp
    have hs := addr_succ a
    obtain ⟨w, hw, hlt, hb⟩ := ih (a + 1#64) (by omega) (fun i hi => by
      rw [hs]
      exact h (i + 1) (Nat.succ_lt_succ hi))
    refine ⟨(w <<< 8) ||| zext (s.byteAt p), by simp only [State.readBytes, hp, hw], ?_, ?_⟩
    · have h1 : (zext (s.byteAt p)).toNat < 2 ^ 8 := by
        simp only [zext, BitVec.toNat_setWidth]
        exact Nat.lt_of_le_of_lt (Nat.mod_le _ _) (s.byteAt p).isLt
      have h2 : (w <<< 8).toNat < 2 ^ (8 * (n + 1)) := by
        rw [BitVec.toNat_shiftLeft, Nat.shiftLeft_eq]
        refine Nat.lt_of_le_of_lt (Nat.mod_le _ _) ?_
        rw [show 8 * (n + 1) = 8 * n + 8 by omega, Nat.pow_add]
        exact Nat.mul_lt_mul_of_pos_right hlt (by decide)
      rw [BitVec.toNat_or]
      exact Nat.or_lt_two_pow h2 (Nat.lt_of_lt_of_le h1 (Nat.pow_le_pow_right (by decide) (by omega)))
    · intro i hi q hq
      cases i with
      | zero =>
        simp only [BitVec.add_zero, hp] at hq
        cases hq
        ext j hj
        have : j < 64 := by omega
        simp [zext, hj, this]
      | succ i =>
        rw [← hs] at hq
        rw [← hb i (by omega) q hq]
        ext j hj
        have h1 : ¬ (8 * (i + 1) + j < 8) := by omega
        have h2 : 8 * (i + 1) + j - 8 = 8 * i + j := by omega
        have h3 : (s.byteAt p).getLsbD (8 * (i + 1) + j) = false := BitVec.getLsbD_of_ge _ _ (by omega)
        have h4 : 8 * (i + 1) + j < 64 := by omega
        simp only [BitVec.getElem_extractLsb', BitVec.getLsbD_or, BitVec.getLsbD_shiftLeft, zext, BitVec.getLsbD_setWidth,
          h1, h2, h3, h4, decide_true, decide_false, Bool.not_false, Bool.true_and, Bool.and_false, Bool.or_false]

/-- A read of an access that reaches memory. -/
theorem State.memRead_holds (s : State) (a : Word) (n : Nat) (hn : n ≤ 8) (h : accessible s .read a n) :
    ∃ w, s.memRead a n = .ok w ∧ holdsBytes s .read a n w := by
  obtain ⟨w, hw, hlt, hb⟩ := State.readBytes_holds s .read n a hn h.2
  exact ⟨w, by simp [State.memRead, h.1, hw], hlt, hb⟩

/-- What a store gives to devices, first byte first. -/
theorem deviceStores_succ (s : State) (a : Word) (n : Nat) (w : Word) (p : Nat) (hp : s.physical .write a = .ok p) :
    deviceStores s a (n + 1) w =
      (if s.isDevice p then [(p, w.extractLsb' 0 8)] else []) ++ deviceStores s (a + 1#64) n (w >>> 8) := by
  have hw : ∀ i : Nat, (w >>> 8).extractLsb' (8 * i) 8 = w.extractLsb' (8 * (i + 1)) 8 := by
    intro i
    ext j hj
    simp only [BitVec.getElem_extractLsb', BitVec.getLsbD_ushiftRight]
    congr 1
    omega
  simp only [deviceStores, List.range_succ_eq_map, List.filterMap_cons, List.filterMap_map, BitVec.add_zero, hp,
    Function.comp_def, addr_succ, hw]
  cases s.isDevice p <;> simp

/-- What a store gives to devices depends on the mapping only. -/
theorem deviceStores_setByte (s : State) (a : Word) (n : Nat) (w : Word) (p : Nat) (b : Byte) :
    deviceStores (s.setByte p b) a n w = deviceStores s a n w := by
  simp only [deviceStores, State.setByte_physical, State.setByte_isDevice]

/-- What a store gives to devices. -/
theorem State.writeBytes_deviceOut (n : Nat) (s t : State) (a w : Word) (h : s.writeBytes a w n = .ok t) :
    t.deviceOut = s.deviceOut ++ deviceStores s a n w := by
  induction n generalizing s a w with
  | zero =>
    cases h
    simp [deviceStores]
  | succ n ih =>
    simp only [State.writeBytes] at h
    split at h
    · cases h
    · rename_i q hq
      rw [ih _ _ _ h, State.deviceOut_setByte, deviceStores_setByte, deviceStores_succ s a n w q hq, List.append_assoc]

/-- A store whose bytes all reach memory or a device. -/
theorem State.writeBytes_stored (n : Nat) (s t : State) (a w : Word) (h : s.writeBytes a w n = .ok t) :
    storedBytes a n w s t := by
  refine ⟨State.writeBytes_frame n s t a w h, ?_, fun p hp => State.writeBytes_other n s t a w p h hp,
    State.writeBytes_deviceOut n s t a w h⟩
  induction n generalizing s a w with
  | zero => exact fun i hi => absurd hi (Nat.not_lt_zero i)
  | succ n ih =>
    simp only [State.writeBytes] at h
    split at h
    · cases h
    · rename_i q hq
      intro i hi p hp hd hlast
      cases i with
      | zero =>
        simp only [BitVec.add_zero, hq] at hp
        cases hp
        have := State.writeBytes_other n _ t _ _ q h (.inr fun j hj => by
          rw [State.setByte_physical, addr_succ]
          exact hlast (j + 1) (Nat.succ_lt_succ hj) (Nat.succ_pos j))
        rw [this.1, this.2, State.byteAt_setByte, State.stale_setByte]
        simp [hd]
      | succ i =>
        have := ih _ _ _ h i (by omega) p (by rw [State.setByte_physical, addr_succ]; exact hp) (by simpa using hd)
          (fun j hj hij => by
            rw [State.setByte_physical, addr_succ]
            exact hlast (j + 1) (by omega) (by omega))
        refine ⟨this.1.trans ?_, this.2⟩
        ext j hj
        simp only [BitVec.getElem_extractLsb', BitVec.getLsbD_ushiftRight]
        congr 1
        omega

/-- A write of an access that reaches memory. -/
theorem State.memWrite_stored (s : State) (a w : Word) (n : Nat) (h : accessible s .write a n) :
    ∃ t, s.memWrite a n w = .ok t ∧ storedBytes a n w s t := by
  obtain ⟨t, ht⟩ := State.writeBytes_total n s a w h.2
  exact ⟨t, by simp [State.memWrite, h.1, ht], State.writeBytes_stored n s t a w ht⟩

/-- A store leaves every access as reachable as it was. -/
theorem storedBytes_accessible {a b w : Word} {n m : Nat} {s t : State} {k : Access} (h : storedBytes a n w s t)
    (hb : accessible s k b m) : accessible t k b m := by
  rw [h.1]
  exact hb

/-- Bytes read were all reached. -/
theorem State.readBytes_ok {s : State} {k : Access} {n : Nat} {a w : Word} (h : s.readBytes k a n = .ok w) :
    ∀ i < n, ∃ p, s.physical k (a + BitVec.ofNat 64 i) = .ok p := by
  induction n generalizing a w with
  | zero => exact fun i hi => absurd hi (Nat.not_lt_zero i)
  | succ n ih =>
    simp only [State.readBytes] at h
    split at h
    · cases h
    · rename_i p hp
      split at h
      · cases h
      · rename_i hi hw
        intro i hi
        cases i with
        | zero => exact ⟨p, by simpa using hp⟩
        | succ i => simpa [addr_succ] using ih hw i (Nat.lt_of_succ_lt_succ hi)

/-- A read of bytes is refused for one of them. -/
theorem State.readBytes_error {s : State} {k : Access} {n : Nat} {a : Word} {e : Refusal}
    (h : s.readBytes k a n = .error e) : ∃ i < n, s.physical k (a + BitVec.ofNat 64 i) = .error e := by
  induction n generalizing a with
  | zero => cases h
  | succ n ih =>
    simp only [State.readBytes] at h
    split at h
    · rename_i hp
      cases h
      exact ⟨0, Nat.succ_pos n, by simpa using hp⟩
    · split at h
      · rename_i hw
        cases h
        obtain ⟨i, hi, hx⟩ := ih hw
        exact ⟨i + 1, Nat.succ_lt_succ hi, by rwa [addr_succ] at hx⟩
      · cases h

/-- Bytes stored were all reached. -/
theorem State.writeBytes_ok {n : Nat} {s t : State} {a w : Word} (h : s.writeBytes a w n = .ok t) :
    ∀ i < n, ∃ p, s.physical .write (a + BitVec.ofNat 64 i) = .ok p := by
  induction n generalizing s a w with
  | zero => exact fun i hi => absurd hi (Nat.not_lt_zero i)
  | succ n ih =>
    simp only [State.writeBytes] at h
    split at h
    · cases h
    · rename_i p hp
      intro i hi
      cases i with
      | zero => exact ⟨p, by simpa using hp⟩
      | succ i => simpa [addr_succ, State.setByte_physical] using ih h i (Nat.lt_of_succ_lt_succ hi)

/-- A store of bytes is refused for one of them. -/
theorem State.writeBytes_error {n : Nat} {s : State} {a w : Word} {e : Refusal} (h : s.writeBytes a w n = .error e) :
    ∃ i < n, s.physical .write (a + BitVec.ofNat 64 i) = .error e := by
  induction n generalizing s a w with
  | zero => cases h
  | succ n ih =>
    simp only [State.writeBytes] at h
    split at h
    · rename_i hp
      cases h
      exact ⟨0, Nat.succ_pos n, by simpa using hp⟩
    · obtain ⟨i, hi, hx⟩ := ih h
      exact ⟨i + 1, Nat.succ_lt_succ hi, by rwa [addr_succ, State.setByte_physical] at hx⟩

/-- A read that gives a value is of an accessible value. -/
theorem State.memRead_ok {s : State} {a w : Word} {n : Nat} (h : s.memRead a n = .ok w) : accessible s .read a n := by
  unfold State.memRead at h
  split at h
  · cases h
  · exact ⟨Bool.eq_false_iff.2 (by assumption), State.readBytes_ok h⟩

/-- A read is refused for its alignment or for one of its bytes. -/
theorem State.memRead_error {s : State} {a : Word} {n : Nat} {e : Refusal} (h : s.memRead a n = .error e) :
    blockedBy s .read n a e := by
  unfold State.memRead at h
  split at h
  · cases h
    exact .inl ⟨by assumption, rfl⟩
  · exact .inr (State.readBytes_error h)

/-- A store that is made is accessible. -/
theorem State.memWrite_ok {s t : State} {a w : Word} {n : Nat} (h : s.memWrite a n w = .ok t) : accessible s .write a n := by
  unfold State.memWrite at h
  split at h
  · cases h
  · exact ⟨Bool.eq_false_iff.2 (by assumption), State.writeBytes_ok h⟩

/-- A store is refused for its alignment or for one of its bytes. -/
theorem State.memWrite_error {s : State} {a w : Word} {n : Nat} {e : Refusal} (h : s.memWrite a n w = .error e) :
    blockedBy s .write n a e := by
  unfold State.memWrite at h
  split at h
  · cases h
    exact .inl ⟨by assumption, rfl⟩
  · exact .inr (State.writeBytes_error h)

/-- A store leaves unchanged what another access is refused for. -/
theorem storedBytes_blockedBy {a b w : Word} {n m : Nat} {s t : State} {k : Access} {e : Refusal} (h : storedBytes a n w s t)
    (hb : blockedBy t k m b e) : blockedBy s k m b e := by
  rw [h.1] at hb
  exact hb

/-- Loads that all give a value are all accessible. -/
theorem State.loadMany_ok {s : State} {n : Nat} {ext : Word → Word} {l ws : List (Option Word)}
    (h : s.loadMany n ext l = .ok ws) : ∀ a, some a ∈ l → accessible s .read a n := by
  induction l generalizing ws with
  | nil => exact fun a ha => by cases ha
  | cons c l ih =>
    intro a ha
    cases c with
    | none =>
      simp only [State.loadMany] at h
      split at h
      · cases h
      · rename_i hl
        exact ih hl a (by simpa using ha)
    | some b =>
      simp only [State.loadMany] at h
      split at h
      · cases h
      · rename_i hb
        split at h
        · cases h
        · rename_i hl
          rcases List.mem_cons.1 ha with hab | ha
          · cases hab
            exact State.memRead_ok hb
          · exact ih hl a ha

/-- Loads are refused for one of them. -/
theorem State.loadMany_error {s : State} {n : Nat} {ext : Word → Word} {l : List (Option Word)} {e : Refusal}
    (h : s.loadMany n ext l = .error e) : ∃ a, some a ∈ l ∧ blockedBy s .read n a e := by
  induction l with
  | nil => cases h
  | cons c l ih =>
    have tail : s.loadMany n ext l = .error e → ∃ a, some a ∈ c :: l ∧ blockedBy s .read n a e := fun hl => by
      obtain ⟨a, ha, hb⟩ := ih hl
      exact ⟨a, List.mem_cons_of_mem _ ha, hb⟩
    cases c with
    | none =>
      simp only [State.loadMany] at h
      split at h
      · rename_i hl
        cases h
        exact tail hl
      · cases h
    | some b =>
      simp only [State.loadMany] at h
      split at h
      · rename_i hb
        cases h
        exact ⟨b, List.mem_cons_self, State.memRead_error hb⟩
      · split at h
        · rename_i hl
          cases h
          exact tail hl
        · cases h

/-- Stores that are all made are all accessible. -/
theorem State.storeMany_ok {n : Nat} {l : List (Word × Word)} {s t : State} (h : s.storeMany n l = .ok t) :
    ∀ c ∈ l, accessible s .write c.1 n := by
  induction l generalizing s with
  | nil => exact fun c hc => by cases hc
  | cons d l ih =>
    obtain ⟨a, w⟩ := d
    simp only [State.storeMany] at h
    split at h
    · cases h
    · rename_i u hu
      intro c hc
      rcases List.mem_cons.1 hc with rfl | hc
      · exact State.memWrite_ok hu
      · have := ih h c hc
        obtain ⟨v, hv, hst⟩ := State.memWrite_stored s a w n (State.memWrite_ok hu)
        cases hu.symm.trans hv
        rw [hst.1] at this
        exact this

/-- Stores are refused for one of them. -/
theorem State.storeMany_error {n : Nat} {l : List (Word × Word)} {s : State} {e : Refusal} (h : s.storeMany n l = .error e) :
    ∃ c ∈ l, blockedBy s .write n c.1 e := by
  induction l generalizing s with
  | nil => cases h
  | cons d l ih =>
    obtain ⟨a, w⟩ := d
    simp only [State.storeMany] at h
    split at h
    · rename_i hu
      cases h
      exact ⟨_, List.mem_cons_self, State.memWrite_error hu⟩
    · rename_i u hu
      obtain ⟨c, hc, hb⟩ := ih h
      obtain ⟨v, hv, hst⟩ := State.memWrite_stored s a w n (State.memWrite_ok hu)
      cases hu.symm.trans hv
      exact ⟨c, List.mem_cons_of_mem _ hc, storedBytes_blockedBy hst hb⟩

/-- One access: what it does where it is accessible, and its refusal where it is not. -/
theorem onAccesses_one {s : State} {k : Access} {n : Nat} {a : Word} {o : Out} {good : Prop}
    (h1 : accessible s k a n → good) (h2 : ¬ accessible s k a n → refusedFor s k n o a) : onAccesses s k n [a] o good :=
  ⟨fun h => h1 (h a List.mem_cons_self), fun ⟨_, hb, hn⟩ =>
    ⟨a, List.mem_cons_self, h2 fun g => hn (List.mem_singleton.1 hb ▸ g)⟩⟩

/-- A fetched byte, translated as a fetch, neither unbacked nor stale. -/
theorem State.fetchByte_ok {s : State} {a : Word} {b : Byte} (h : s.fetchByte a = .ok b) :
    ∃ p, s.physical .fetch a = .ok p ∧ sparseGet false s.stale p = false ∧ b = s.byteAt p := by
  unfold State.fetchByte at h
  split at h
  · cases h
  · rename_i p hp
    split at h
    · cases h
    · have hb := Except.ok.inj h
      exact ⟨p, hp, Bool.eq_false_iff.2 (by assumption), hb.symm⟩

/-- A byte is not fetched for its address or because it is stale. -/
theorem State.fetchByte_error {s : State} {a : Word} {e : Refusal} (h : s.fetchByte a = .error e) :
    s.physical .fetch a = .error e ∨ e = .staleCode ∧ ∃ p, s.physical .fetch a = .ok p ∧ sparseGet false s.stale p = true := by
  unfold State.fetchByte at h
  split at h
  · cases h
    exact .inl (by assumption)
  · rename_i p hp
    split at h
    · cases h
      exact .inr ⟨rfl, p, hp, by assumption⟩
    · cases h

/-- Fetched bytes: byte `i` of the number is what the byte at address `a + i` reads. -/
theorem State.fetchBytes_ok {s : State} {n : Nat} {a : Word} {w : Nat} (h : s.fetchBytes a n = .ok w) :
    ∀ i < n, ∃ b, s.fetchByte (a + BitVec.ofNat 64 i) = .ok b ∧ w / 256 ^ i % 256 = b.toNat := by
  induction n generalizing a w with
  | zero => exact fun i hi => absurd hi (Nat.not_lt_zero i)
  | succ n ih =>
    simp only [State.fetchBytes] at h
    split at h
    · cases h
    · rename_i b hb
      split at h
      · cases h
      · rename_i rest hr
        cases h
        intro i hi
        cases i with
        | zero =>
          refine ⟨b, by simpa using hb, ?_⟩
          have := b.isLt
          simp only [Nat.pow_zero, Nat.div_one]
          omega
        | succ i =>
          obtain ⟨c, hc, hx⟩ := ih hr i (Nat.lt_of_succ_lt_succ hi)
          refine ⟨c, by rwa [addr_succ] at hc, ?_⟩
          have := b.isLt
          rw [Nat.pow_succ, Nat.mul_comm (256 ^ i), ← Nat.div_div_eq_div_mul, ← hx]
          congr 2
          omega

/-- Bytes are not fetched for one of them. -/
theorem State.fetchBytes_error {s : State} {n : Nat} {a : Word} {e : Refusal} (h : s.fetchBytes a n = .error e) :
    ∃ i < n, s.fetchByte (a + BitVec.ofNat 64 i) = .error e := by
  induction n generalizing a with
  | zero => cases h
  | succ n ih =>
    simp only [State.fetchBytes] at h
    split at h
    · rename_i hb
      cases h
      exact ⟨0, Nat.succ_pos n, by simpa using hb⟩
    · split at h
      · rename_i hr
        cases h
        obtain ⟨i, hi, hx⟩ := ih hr
        exact ⟨i + 1, Nat.succ_lt_succ hi, by rwa [addr_succ] at hx⟩
      · cases h

/-- The extension of a loaded value. -/
theorem extendLoad_extended (signed : Bool) (n : Nat) (w : Word) (h1 : 1 ≤ n) (h8 : n ≤ 8) :
    extendLoad signed n w = extended signed n w := by
  cases signed
  · rfl
  · simp only [extendLoad, extended, if_true, signExtendBytes]
    rw [show BitVec.ofInt 64 (w.setWidth (8 * n)).toInt = (w.setWidth (8 * n)).signExtend 64 from rfl]
    apply BitVec.eq_of_getLsbD_eq
    intro i hi
    rw [BitVec.getLsbD_sshiftRight, BitVec.getLsbD_signExtend]
    simp only [hi, Nat.not_le.2 hi, decide_false, Bool.not_false, Bool.true_and, decide_true]
    split
    · rw [BitVec.getLsbD_shiftLeft, BitVec.getLsbD_setWidth]
      have h2 : ¬ (64 - 8 * n + i < 64 - 8 * n) := by omega
      have h3 : i < 8 * n := by omega
      have h4 : 64 - 8 * n + i < 64 := by omega
      simp [h2, h3, h4]
    · have h2 : ¬ i < 8 * n := by omega
      rw [BitVec.msb_shiftLeft, BitVec.getMsbD_eq_getLsbD, if_neg h2, BitVec.msb_eq_getLsbD_last, BitVec.getLsbD_setWidth]
      have h3 : 64 - 8 * n < 64 := by omega
      have h4 : 8 * n - 1 < 8 * n := by omega
      simp only [h3, h4, decide_true, Bool.true_and]
      congr 1
      omega

/-- A load of bytes that reach memory. -/
theorem loadTo_next (s : State) (signed : Bool) (n : Nat) (ea : Word) (rt : RegNo) (h1 : 1 ≤ n) (h8 : n ≤ 8)
    (h : accessible s .read ea n) :
    ∃ w, holdsBytes s .read ea n w ∧ nextWith (loadTo signed n ea rt s) (wroteReg rt (extended signed n w) s) := by
  obtain ⟨w, hw, hb⟩ := State.memRead_holds s ea n h8 h
  refine ⟨w, hb, ?_⟩
  unfold loadTo
  rw [hw, ← extendLoad_extended signed n w h1 h8]
  exact ⟨_, rfl, wroteReg_setReg ..⟩

/-- A store of bytes that reach memory. -/
theorem storeAt_next (s : State) (n : Nat) (ea w : Word) (h : accessible s .write ea n) :
    nextWith (storeAt n ea w s) (stored ea n w s) := by
  obtain ⟨t, ht, hb⟩ := State.memWrite_stored s ea w n h
  unfold storeAt
  rw [ht]
  refine ⟨_, rfl, t, hb, ?_⟩
  have : t.ipNext = s.ipNext := by
    rw [hb.1]
    rfl
  show t.jump t.ipNext = _
  rw [this]
  rfl

/-- A load of bytes that one access does not reach. -/
theorem loadTo_refused (s : State) (signed : Bool) (n : Nat) (ea : Word) (rt : RegNo) (h : ¬ accessible s .read ea n) :
    refusedFor s .read n (loadTo signed n ea rt s) ea := by
  unfold loadTo
  cases hr : s.memRead ea n with
  | error e => exact ⟨e, rfl, State.memRead_error hr⟩
  | ok w => exact absurd (State.memRead_ok hr) h

/-- A store of bytes that one access does not reach. -/
theorem storeAt_refused (s : State) (n : Nat) (ea w : Word) (h : ¬ accessible s .write ea n) :
    refusedFor s .write n (storeAt n ea w s) ea := by
  unfold storeAt
  cases hr : s.memWrite ea n w with
  | error e => exact ⟨e, rfl, State.memWrite_error hr⟩
  | ok t => exact absurd (State.memWrite_ok hr) h

/-- A scale's factor. -/
theorem scaleFactor_eq (x : BitVec 3) (n : Nat) : scaleFactor x n =
    if 2 ≤ x.toNat then none else some (if x = 1#3 then BitVec.ofNat 64 n else 1#64) := by
  have : x = 0#3 ∨ x = 1#3 ∨ x = 2#3 ∨ x = 3#3 ∨ x = 4#3 ∨ x = 5#3 ∨ x = 6#3 ∨ x = 7#3 := by
    revert x
    decide
  rcases this with rfl | rfl | rfl | rfl | rfl | rfl | rfl | rfl <;> rfl

/-- An access size. -/
theorem sizeBytes_eq (n : BitVec 4) : sizeBytes n = if n.toNat < 4 then some (2 ^ n.toNat) else none := by
  revert n
  decide

/-! ## Vector results -/

/-- A frame of elements depends on the values below VL only. -/
theorem wroteElems_congr {r : RegNo} {g g' : Nat → Option Word} {s t : State} (h : ∀ e < s.vlen, g e = g' e)
    (w : wroteElems r g s t) : wroteElems r g' s t := by
  refine ⟨w.1, fun q e => ?_⟩
  rw [w.2]
  by_cases hh : q = r ∧ e < s.vlen
  · rw [if_pos hh, if_pos hh, h e hh.2]
  · rw [if_neg hh, if_neg hh]

/-- Values computed from the active elements, packed. -/
theorem packedValue_packed (s : State) (sel : MaskSel) (h : Nat → Word) (e : Nat) :
    packedValue sel ((s.actives sel).map h) e =
      packed (zeroing sel) (activeElements s sel).length (fun j => h ((activeElements s sel).getD j 0)) e := by
  unfold packedValue packed
  rw [show s.actives sel = activeElements s sel from rfl, List.getElem?_map]
  by_cases hl : e < (activeElements s sel).length
  · simp [hl]
  · simp [hl, inactiveValue]

/-! ## Control -/

/-- A conditional branch whose comparison decides `cond`. -/
theorem branchOp_form (c : BrF → Instr) (k : ConstKind) (cond : Word → Word → Prop) (g : Word → Word → Bool)
    (hc : ∀ f s, exec (c f) s = branchOp k g f s) (h : ∀ a b, g a b = true ↔ cond a b) : branchForm c k cond := by
  have nine : ∀ (x : Word) {n : Nat} (d : BitVec n), x + 9#64 * sext d = BitVec.ofInt 64 (x.toInt + 9 * d.toInt) := by
    intro x n d
    rw [show sext d = BitVec.ofInt 64 d.toInt from rfl, BitVec.ofInt_add, BitVec.ofInt_toInt, BitVec.ofInt_mul]
    rfl
  intro f s hs
  rw [hc, branchOp, withMods_fit _ _ _ hs]
  by_cases hm : f.ta = true ∨ isVec f.tb = true
  · rw [if_pos hm, if_pos (by simpa using hm)]
    exact misuse_raises s
  · rw [if_neg hm, if_neg (by simpa using hm)]
    rcases s.mods.tail with _ | (m | m | m | m)
    case some.brmod =>
      dsimp only
      by_cases hb : isVec m.tc = true ∨ m.tt = true
      · rw [if_pos hb, if_pos (by simpa using hb)]
        exact misuse_raises s
      · rw [if_neg hb, if_neg (by simpa using hb)]
        refine ⟨fun ht => ?_, fun ht => ?_⟩
        · rw [if_pos ((h _ _).2 ht), nine]
          exact ⟨_, rfl, linkedAndJumped_setReg ..⟩
        · rw [if_neg (fun x => ht ((h _ _).1 x))]
          exact ⟨_, rfl, linkedAndJumped_setReg ..⟩
    all_goals
      refine ⟨fun ht => ?_, fun ht => ?_⟩
      · rw [if_pos ((h _ _).2 ht), nine]
        exact ⟨_, rfl, rfl⟩
      · rw [if_neg (fun x => ht ((h _ _).1 x))]
        exact ⟨_, rfl, rfl⟩

/-- CHK's comparison. -/
theorem withinBounds_iff (cn : BitVec 2) (l x u : Word) : withinBounds cn l x u = true ↔ boundsHold cn l x u := by
  have : cn = 0#2 ∨ cn = 1#2 ∨ cn = 2#2 ∨ cn = 3#2 := by
    revert cn
    decide
  rcases this with rfl | rfl | rfl | rfl <;> simp [withinBounds, boundsHold, BitVec.slt, BitVec.sle]

/-- The six-bit register specs of the system instructions. -/
theorem sysReg_eq (x : BitVec 6) : sysReg x = x.setWidth 5 := by
  apply BitVec.eq_of_toNat_eq
  simp [sysReg, BitVec.extractLsb'_toNat]

theorem sysVec_eq (x : BitVec 6) : sysVec x = x.msb := by
  revert x
  decide

end Sys2Proof.Machine
end

