-- ==== Sys2Proof/Laws/Frames.lean ====
section
/-! SUPPORT. What every instruction can do, said once: a property of states that the primitive updates keep is kept by
every instruction, but for the exceptions it takes. A property is given by its closure under the updates an instruction
may make; stores and the exception registers come in only where the instruction is of that kind. -/

namespace Sys2Proof.Machine

/-- The property is kept by the updates that any instruction may make. -/
structure Closed (Q : State → Prop) : Prop where
  jump : ∀ s t, Q s → Q (s.jump t)
  reg : ∀ s r w, Q s → Q (s.setReg r w)
  elems : ∀ s r g, s.vlTooLong = false → Q s → Q (s.setElems r s.vlen g)
  elem : ∀ s r e w, e < s.cfg.vlmax → Q s → Q (s.setElem r e w)
  mask : ∀ s m x, Q s → Q (s.setMask m x)
  vl : ∀ s w, Q s → Q { s with vl := w }
  coeff : ∀ s c, Q s → Q { s with coeff := c }
  push : ∀ s q w, (s.queue q).length < s.cfg.queueDepth → Q s → Q (s.setQueue q (s.queue q ++ [queueValue s.cfg w]))
  pop : ∀ s q w l, s.queue q = w :: l → Q s → Q (s.setQueue q l)
  free : ∀ s n, Q s → Q { s with free := n }
  waiting : ∀ s b, Q s → Q { s with waiting := b }
  tlb : ∀ s w e x, Q s → Q { s with tlb := sparseSet 0#64 s.tlb (tlbKey w e) x }
  dcache : ∀ s b, Q s → Q { s with dcacheEnable := b }
  line : ∀ s n p, Q s → Q { s with stale := freshLine n s.stale p }
  fresh : ∀ s, Q s → Q { s with stale := [] }

/-- The property is kept by a store of a byte that an access reaches. -/
def StoreClosed (Q : State → Prop) : Prop := ∀ s k a p b, s.physical k a = .ok p → Q s → Q (s.setByte p b)

/-- The property is kept by RTE, REX and CSR writes. -/
structure SystemClosed (Q : State → Prop) : Prop where
  rte : ∀ s a b, Q s → Q (s.returnFromTrap a b)
  rex : ∀ s m, Q s → Q (s.redirect m (s.rexEntry m))
  csr : ∀ s r w, Q s → Q (s.csrWrite r w)

/-- A next state has the property and no pending modifiers, or is the one after taking an exception. -/
structure Fine (Q : State → Prop) (s : State) (o : Out) : Prop where
  next_cases : ∀ t, o = .next t → (Q t ∧ t.mods = Mods.empty) ∨ ∃ c, t = s.takeTrap c

variable {Q : State → Prop} {s : State}

theorem Fine.next {t : State} (h : Q t) (hm : t.mods = Mods.empty := by rfl) : Fine Q s (.next t) :=
  ⟨fun _ e => .inl (by cases e; exact ⟨h, hm⟩)⟩

theorem Fine.refused (r : Refusal) : Fine Q s (.refused r) := ⟨fun _ e => by cases e⟩

theorem Fine.raise (e : Exception) : Fine Q s (.next (s.raise e)) := ⟨fun _ h => .inr ⟨_, by cases h; rfl⟩⟩

theorem Fine.trap (c : Byte) : Fine Q s (.next (s.takeTrap c)) := ⟨fun _ h => .inr ⟨_, by cases h; rfl⟩⟩

theorem Fine.misuse : Fine Q s (misuse s) := Fine.raise _

theorem Fine.ite {p : Prop} [Decidable p] {a b : Out} (ha : p → Fine Q s a) (hb : ¬ p → Fine Q s b) :
    Fine Q s (if p then a else b) := by
  split
  · exact ha (by assumption)
  · exact hb (by assumption)

theorem Fine.withMods {u : ModUse} {k : Out} (h : Fine Q s k) : Fine Q s (withMods u s k) :=
  Fine.ite (fun _ => h) (fun _ => Fine.refused _)

theorem Fine.withVl {k : Out} (h : s.vlTooLong = false → Fine Q s k) : Fine Q s (withVl s k) := by
  unfold Machine.withVl
  refine Fine.ite (fun _ => Fine.refused _) (fun hv => h (by simpa using hv))

theorem Fine.withSysPriv {k : Out} (h : Fine Q s k) : Fine Q s (withSysPriv s k) := by
  unfold Machine.withSysPriv
  refine Fine.ite (fun _ => ?_) (fun _ => h)
  split
  · exact h
  · exact Fine.raise _
  · exact Fine.refused _

theorem Closed.advance (c : Closed Q) (h : Q s) : Q s.advance := c.jump s _ h

theorem Fine.setReg (c : Closed Q) (h : Q s) (r : RegNo) (w : Word) : Fine Q s (.next (s.setReg r w).advance) :=
  Fine.next (c.advance (c.reg s r w h))

theorem Fine.setElems (c : Closed Q) (h : Q s) (hv : s.vlTooLong = false) (r : RegNo) (g : Nat → Option Word) :
    Fine Q s (.next (s.setElems r s.vlen g).advance) :=
  Fine.next (c.advance (c.elems s r g hv h))

theorem Fine.setMask (c : Closed Q) (h : Q s) (m : MaskNo) (x : BitVec 128) : Fine Q s (.next (s.setMask m x).advance) :=
  Fine.next (c.advance (c.mask s m x h))

theorem Fine.elementOp (c : Closed Q) (h : Q s) (v tt : Bool) (rt : RegNo) (vs : Bool) (sel : MaskSel) (f : Nat → Word) :
    Fine Q s (elementOp v tt rt vs sel f s) := by
  unfold Machine.elementOp
  exact Fine.ite
    (fun _ => Fine.ite (fun _ => Fine.withVl fun hv => Fine.setElems c h hv _ _) (fun _ => Fine.misuse))
    (fun _ => Fine.ite (fun _ => Fine.misuse) (fun _ => Fine.setReg c h _ _))

theorem Fine.r1Op (c : Closed Q) (h : Q s) (g : Word → Word) (f : R1F) : Fine Q s (r1Op g f s) :=
  Fine.withMods (Fine.elementOp c h ..)

theorem Fine.r2Op (c : Closed Q) (h : Q s) (k : ConstKind) (g : Word → Word → Word) (f : R2F) : Fine Q s (r2Op k g f s) :=
  Fine.withMods (Fine.elementOp c h ..)

theorem Fine.shiftOp (c : Closed Q) (h : Q s) (g : Word → BitVec 6 → Word) (f : ShiftF) : Fine Q s (shiftOp g f s) :=
  Fine.withMods (Fine.elementOp c h ..)

theorem Fine.r3Op (c : Closed Q) (h : Q s) (kb kc : ConstKind) (g : Word → Word → Word → Word) (f : R2F) :
    Fine Q s (r3Op kb kc g f s) :=
  Fine.withMods (Fine.elementOp c h ..)

theorem Fine.r4Op (c : Closed Q) (h : Q s) (kb kc : ConstKind) (g : Word → Word → Word → Word → Word) (f : R2F) :
    Fine Q s (r4Op kb kc g f s) :=
  Fine.withMods (Fine.elementOp c h ..)

theorem Fine.riOp (c : Closed Q) (h : Q s) (e : BitVec 16 → Word) (g : Word → Word → Word) (f : RIF) :
    Fine Q s (riOp e g f s) :=
  Fine.withMods (Fine.elementOp c h ..)

theorem Fine.checkOp (c : Closed Q) (h : Q s) (ok : Bool) : Fine Q s (checkOp ok s) :=
  Fine.ite (fun _ => Fine.next (c.advance h)) (fun _ => Fine.raise _)

theorem Fine.branchOp (c : Closed Q) (h : Q s) (k : ConstKind) (cond : Word → Word → Bool) (f : BrF) :
    Fine Q s (branchOp k cond f s) := by
  refine Fine.withMods (Fine.ite (fun _ => Fine.misuse) (fun _ => ?_))
  split
  · exact Fine.ite (fun _ => Fine.misuse) (fun _ => Fine.next (c.jump _ _ (c.reg s _ _ h)))
  · exact Fine.next (c.jump s _ h)

theorem Fine.linkJump (c : Closed Q) (h : Q s) (r : BitVec 2) (l t : Word) : Fine Q s (linkJump r l t s) :=
  Fine.next (c.jump _ _ (c.reg s _ _ h))

theorem Fine.scalar {k : Word → Out} {ty : BitVec 2} {r : RegNo} (h : ∀ w, Fine Q s (k w)) :
    Fine Q s (match s.scalarSpec ty r with | none => Machine.misuse s | some w => k w) := by
  split
  · exact Fine.misuse
  · exact h _

/-! ## Loads and stores -/

theorem Fine.loadTo (c : Closed Q) (h : Q s) (sg : Bool) (n : Nat) (ea : Word) (rt : RegNo) :
    Fine Q s (loadTo sg n ea rt s) := by
  unfold Machine.loadTo
  split
  · exact Fine.refused _
  · exact Fine.setReg c h _ _

theorem Fine.loadOp (c : Closed Q) (h : Q s) (sg : Bool) (n : BitVec 4) (f : LdF) : Fine Q s (loadOp sg n f s) := by
  refine Fine.withMods (Fine.ite (fun _ => Fine.misuse) (fun _ => ?_))
  split
  · exact Fine.refused _
  · exact Fine.loadTo c h ..

theorem Fine.loadXOp (c : Closed Q) (h : Q s) (sg : Bool) (n : BitVec 4) (f : LdxF) : Fine Q s (loadXOp sg n f s) := by
  refine Fine.withMods (Fine.ite (fun _ => Fine.misuse) (fun _ => ?_))
  split
  · exact Fine.refused _
  · split
    · exact Fine.refused _
    · exact Fine.loadTo c h ..

theorem Fine.vectorLoadOp (c : Closed Q) (h : Q s) (i z : Bool) (n : BitVec 4) (f : LdF) :
    Fine Q s (vectorLoadOp i z n f s) := by
  refine Fine.withMods ?_
  split
  · refine Fine.ite (fun _ => Fine.ite (fun _ => Fine.misuse) fun _ => Fine.withVl fun hv => ?_) (fun _ => Fine.refused _)
    split
    · exact Fine.refused _
    · dsimp only
      split
      · exact Fine.refused _
      · exact Fine.setElems c h hv _ _
  · exact Fine.refused _

/-- A store keeps a property that a byte store keeps. -/
theorem StoreClosed.writeBytes (c : StoreClosed Q) (n : Nat) (s t : State) (a w : Word) (h : Q s)
    (e : s.writeBytes a w n = .ok t) : Q t := by
  induction n generalizing s a w with
  | zero =>
    cases e
    exact h
  | succ n ih =>
    simp only [State.writeBytes] at e
    split at e
    · cases e
    · exact ih _ _ _ (c s _ _ _ _ (by assumption) h) e

theorem StoreClosed.memWrite (c : StoreClosed Q) {s t : State} {a w : Word} {n : Nat} (h : Q s)
    (e : s.memWrite a n w = .ok t) : Q t := by
  unfold State.memWrite at e
  split at e
  · cases e
  · exact c.writeBytes n s t a w h e

theorem StoreClosed.clearCards (c : StoreClosed Q) (n : Nat) (s t : State) (ea : Word) (h : Q s)
    (e : s.clearCards ea n = .ok t) : Q t := by
  induction n generalizing s ea with
  | zero =>
    cases e
    exact h
  | succ n ih =>
    simp only [State.clearCards] at e
    split at e
    · cases e
      exact h
    · split at e
      · cases e
      · exact ih _ _ (c.memWrite h (by assumption)) e

theorem StoreClosed.storeMany (c : StoreClosed Q) (n : Nat) (l : List (Word × Word)) (s t : State) (h : Q s)
    (e : s.storeMany n l = .ok t) : Q t := by
  induction l generalizing s with
  | nil =>
    cases e
    exact h
  | cons p rest ih =>
    simp only [State.storeMany] at e
    split at e
    · cases e
    · exact ih _ (c.memWrite h (by assumption)) e

theorem Fine.storeAt (c : Closed Q) (m : StoreClosed Q) (h : Q s) (n : Nat) (ea w : Word) : Fine Q s (storeAt n ea w s) := by
  unfold Machine.storeAt
  split
  · exact Fine.refused _
  · exact Fine.next (c.advance (m.memWrite h (by assumption)))

theorem Fine.storePointerAt (c : Closed Q) (m : StoreClosed Q) (h : Q s) (ea w : Word) :
    Fine Q s (storePointerAt ea w s) := by
  unfold Machine.storePointerAt
  split
  · exact Fine.refused _
  · split
    · exact Fine.refused _
    · exact Fine.next (c.advance (m.clearCards 8 _ _ _ (m.memWrite h (by assumption)) (by assumption)))

theorem Fine.storeZeroAt (c : Closed Q) (m : StoreClosed Q) (h : Q s) (n : Nat) (f : StF) (ea w : Word) :
    Fine Q s (storeZeroAt n f ea w s) := by
  unfold Machine.storeZeroAt
  split
  · exact Fine.refused _
  · refine Fine.next (c.advance ?_)
    split
    · exact c.reg _ _ _ (m.memWrite h (by assumption))
    · exact m.memWrite h (by assumption)

theorem Fine.storeOp {put : Word → Word → State → Out} (h : ∀ ea w, Fine Q s (put ea w s)) (f : StF) :
    Fine Q s (storeOp put f s) :=
  Fine.withMods (Fine.ite (fun _ => Fine.misuse) (fun _ => h _ _))

theorem Fine.storeXOp {put : Word → Word → State → Out} (h : ∀ ea w, Fine Q s (put ea w s)) (n : Nat) (f : StxF) :
    Fine Q s (storeXOp n put f s) := by
  refine Fine.withMods (Fine.ite (fun _ => Fine.misuse) (fun _ => ?_))
  split
  · exact Fine.refused _
  · exact h _ _

theorem Fine.vectorStoreOp (c : Closed Q) (m : StoreClosed Q) (h : Q s) (i z : Bool) (n : BitVec 4) (f : StF) :
    Fine Q s (vectorStoreOp i z n f s) := by
  refine Fine.withMods ?_
  split
  · refine Fine.ite (fun _ => Fine.ite (fun _ => Fine.misuse) fun _ => Fine.withVl fun hv => ?_) (fun _ => Fine.refused _)
    split
    · exact Fine.refused _
    · dsimp only
      refine Fine.ite (fun _ => Fine.refused _) (fun _ => ?_)
      split
      · exact Fine.refused _
      · exact Fine.next (c.advance (m.storeMany _ _ _ _ h (by assumption)))
  · exact Fine.refused _

/-! ## Masks, queues, system -/

theorem Fine.maskOp (c : Closed Q) (h : Q s) (g : BitVec 128 → BitVec 128 → BitVec 128) (f : Vm3F) :
    Fine Q s (maskOp g f s) :=
  Fine.withMods (Fine.setMask c h _ _)

theorem Fine.maskGetOp (c : Closed Q) (h : Q s) (g : BitVec 128 → Word) (f : VmGetF) : Fine Q s (maskGetOp g f s) :=
  Fine.withMods (Fine.ite (fun _ => Fine.setReg c h _ _) (fun _ => Fine.misuse))

theorem Fine.maskPutOp (c : Closed Q) (h : Q s) (g : Word → BitVec 128) (f : VmPutF) : Fine Q s (maskPutOp g f s) :=
  Fine.withMods (Fine.scalar fun _ => Fine.setMask c h _ _)

theorem Fine.setMaskOp (c : Closed Q) (h : Q s) (k : ConstKind) (g : BitVec 3 → Word → Word → Option Bool) (f : SetMaskF) :
    Fine Q s (setMaskOp k g f s) :=
  Fine.withMods (Fine.withVl fun _ => Fine.ite (fun _ => Fine.refused _) (fun _ => Fine.setMask c h _ _))

theorem Fine.pushTo (c : Closed Q) (h : Q s) (q : BitVec 6) (w : Word) : Fine Q s (pushTo q w s) :=
  Fine.ite (fun hl => Fine.next (c.advance (c.push s q w hl h))) (fun _ => Fine.refused _)

theorem Fine.popFrom (c : Closed Q) (h : Q s) (q : BitVec 6) (r : RegNo) : Fine Q s (popFrom q r s) := by
  unfold Machine.popFrom
  split
  · exact Fine.next (c.advance (c.reg _ _ _ (c.free s _ h)))
  · exact Fine.next (c.advance (c.reg _ _ _ (c.pop s q _ _ (by assumption) h)))

theorem Fine.peekFrom (c : Closed Q) (h : Q s) (q : BitVec 6) (r : RegNo) : Fine Q s (peekFrom q r s) := by
  unfold Machine.peekFrom
  split
  · exact Fine.next (c.advance (c.reg _ _ _ (c.free s _ h)))
  · exact Fine.setReg c h _ _

theorem Fine.statOf (c : Closed Q) (h : Q s) (q : BitVec 6) (r : RegNo) : Fine Q s (statOf q r s) := Fine.setReg c h _ _

theorem Fine.csrOp (c : Closed Q) (y : SystemClosed Q) (h : Q s) (op2 : BitVec 2) (f : CsrF) : Fine Q s (csrOp op2 f s) := by
  refine Fine.withMods (Fine.ite (fun _ => Fine.misuse) fun _ => Fine.ite (fun _ => Fine.raise _) fun _ => ?_)
  split
  · exact Fine.raise _
  · dsimp only
    refine Fine.ite (fun _ => Fine.setReg c h _ _) fun _ => Fine.ite (fun _ => Fine.refused _) fun _ => ?_
    split
    · exact Fine.raise _
    · exact Fine.setReg c h _ _
    · exact Fine.next (c.advance (c.reg _ _ _ (y.csr s _ _ h)))

theorem Fine.cacheCommand (c : Closed Q) (h : Q s) (i d : BitVec 3) (ea : Word) : Fine Q s (cacheCommand i d ea s) := by
  unfold Machine.cacheCommand
  have hd := c.dcache s (if d = 1#3 then true else if d = 2#3 then false else s.dcacheEnable) h
  refine Fine.ite (fun _ => ?_) fun _ => Fine.ite (fun _ => ?_) fun _ => ?_
  · split
    · exact Fine.refused _
    · exact Fine.next (c.advance (c.line _ _ _ hd))
  · exact Fine.next (c.advance (c.fresh _ hd))
  · exact Fine.next (c.advance hd)

theorem Fine.byteSearchOp (c : Closed Q) (h : Q s) (ta2 : BitVec 2) (ra : RegNo) (tt2 : BitVec 2) (rt : RegNo)
    (v kv : Bool) (key : Nat → Byte) : Fine Q s (byteSearchOp ta2 ra tt2 rt v kv key s) := by
  unfold Machine.byteSearchOp
  exact Fine.ite (fun _ => Fine.withVl fun _ => Fine.setReg c h _ _)
    (fun _ => Fine.ite (fun _ => Fine.misuse) (fun _ => Fine.elementOp c h _ _ _ _ _ _))

theorem Fine.lea (c : Closed Q) (h : Q s) (f : LeaF) : Fine Q s (execLea f s) := by
  refine Fine.withMods (Fine.ite (fun _ => Fine.misuse) fun _ => ?_)
  split
  · exact Fine.refused _
  · split
    · exact Fine.refused _
    · exact Fine.setReg c h _ _

theorem Fine.tlbrw (c : Closed Q) (h : Q s) (f : SysF) : Fine Q s (execTlbrw f s) := by
  refine Fine.withMods (Fine.ite (fun _ => Fine.misuse) fun _ => Fine.withSysPriv ?_)
  refine Fine.next (c.advance (c.reg _ _ _ ?_))
  split
  · exact c.tlb s _ _ _ h
  · exact h

theorem Fine.cache (c : Closed Q) (h : Q s) (f : CacheF) : Fine Q s (execCache f s) :=
  Fine.withMods (Fine.ite (fun _ => Fine.misuse) fun _ => Fine.withSysPriv
    (Fine.ite (fun _ => Fine.refused _) fun _ => Fine.cacheCommand c h _ _ _))

theorem Fine.rdCoeff (c : Closed Q) (h : Q s) (f : R2F) : Fine Q s (execRdCoeff f s) :=
  Fine.withMods (Fine.ite
    (fun _ => Fine.ite (fun _ => Fine.refused _) fun _ => Fine.elementOp c h _ _ _ _ _ _)
    (fun _ => Fine.ite (fun _ => Fine.refused _) fun _ => Fine.elementOp c h _ _ _ _ _ _))

theorem Fine.wrCoeff (c : Closed Q) (h : Q s) (f : R2F) : Fine Q s (execWrCoeff f s) :=
  Fine.withMods (Fine.ite
    (fun _ => Fine.ite (fun _ => Fine.misuse) fun _ => Fine.withVl fun hv => Fine.ite (fun _ => Fine.refused _) fun _ =>
      Fine.next (c.advance (c.elems { s with coeff := _ } _ _ hv (c.coeff s _ h))))
    (fun _ => Fine.ite (fun _ => Fine.misuse) fun _ => Fine.ite (fun _ => Fine.refused _) fun _ =>
      Fine.next (c.advance (c.reg _ _ _ (c.coeff s _ h)))))

theorem Fine.pfi (c : Closed Q) (h : Q s) : Fine Q s (execPfi s) := by
  refine Fine.withMods ?_
  split
  · exact Fine.trap _
  · exact Fine.next (c.advance h)

theorem Fine.rex (c : Closed Q) (y : SystemClosed Q) (h : Q s) (f : SysF) : Fine Q s (execRex f s) := by
  refine Fine.withMods ?_
  split
  · exact Fine.refused _
  · exact Fine.ite (fun _ => Fine.refused _) fun _ =>
      Fine.ite (fun _ => Fine.next (y.rex s _ h)) fun _ => Fine.next (c.advance h)

theorem Fine.rte (y : SystemClosed Q) (h : Q s) (f : SysF) : Fine Q s (execRte f s) := by
  refine Fine.withMods ?_
  split
  · exact Fine.next (y.rte s _ _ h)
  · exact Fine.misuse

theorem Fine.stx (c : Closed Q) (m : StoreClosed Q) (h : Q s) (n : BitVec 4) (f : StF) : Fine Q s (execStx n f s) := by
  unfold execStx
  split
  · exact Fine.storeOp (fun _ _ => Fine.storeAt c m h _ _ _) _
  · exact Fine.ite (fun _ => Fine.storeOp (fun _ _ => Fine.storePointerAt c m h _ _) _) fun _ =>
      Fine.withMods (Fine.ite (fun _ => Fine.misuse) fun _ => Fine.refused _)

theorem Fine.stxX (c : Closed Q) (m : StoreClosed Q) (h : Q s) (n : BitVec 4) (f : StxF) : Fine Q s (execStxX n f s) := by
  unfold execStxX
  split
  · exact Fine.storeXOp (fun _ _ => Fine.storeAt c m h _ _ _) _ _
  · exact Fine.ite (fun _ => Fine.storeXOp (fun _ _ => Fine.storePointerAt c m h _ _) _ _) fun _ =>
      Fine.withMods (Fine.ite (fun _ => Fine.misuse) fun _ => Fine.refused _)

/-- Every instruction but a modifier keeps what its updates keep, or takes an exception. -/
theorem exec_fine (c : Closed Q) (h : Q s) (i : Instr) (hm : isModifier i = false)
    (m : isStore i = true → StoreClosed Q) (y : isSystemControl i = true → SystemClosed Q) : Fine Q s (exec i s) :=
  match i with
  | .brk cause => show Fine Q s (execBrk cause s) from
    Fine.withMods (Fine.trap _)
  | .cntlz f => show Fine Q s (execCntlz f s) from
    Fine.r1Op c h _ _
  | .cntlo f => show Fine Q s (execCntlo f s) from
    Fine.r1Op c h _ _
  | .cntpop f => show Fine Q s (execCntpop f s) from
    Fine.r1Op c h _ _
  | .com f => show Fine Q s (execCom f s) from
    Fine.r1Op c h _ _
  | .notL f => show Fine Q s (execNotL f s) from
    Fine.r1Op c h _ _
  | .neg f => show Fine Q s (execNeg f s) from
    Fine.r1Op c h _ _
  | .abs f => show Fine Q s (execAbs f s) from
    Fine.r1Op c h _ _
  | .nabs f => show Fine Q s (execNabs f s) from
    Fine.r1Op c h _ _
  | .sqrt f => show Fine Q s (execSqrt f s) from
    Fine.r1Op c h _ _
  | .zxb f => show Fine Q s (execZxb f s) from
    Fine.r1Op c h _ _
  | .zxw f => show Fine Q s (execZxw f s) from
    Fine.r1Op c h _ _
  | .zxt f => show Fine Q s (execZxt f s) from
    Fine.r1Op c h _ _
  | .sxb f => show Fine Q s (execSxb f s) from
    Fine.r1Op c h _ _
  | .sxw f => show Fine Q s (execSxw f s) from
    Fine.r1Op c h _ _
  | .sxt f => show Fine Q s (execSxt f s) from
    Fine.r1Op c h _ _
  | .v2bits f => show Fine Q s (execV2bits f s) from
    Fine.withMods (Fine.ite (fun _ => Fine.misuse) fun _ => Fine.withVl fun _ => Fine.setReg c h _ _)
  | .vbits2v f => show Fine Q s (execVbits2v f s) from
    Fine.withMods (Fine.ite (fun _ => Fine.misuse) fun _ => Fine.withVl fun hv => Fine.setElems c h hv _ _)
  | .vcmprss f => show Fine Q s (execVcmprss f s) from
    Fine.withMods (Fine.ite (fun _ => Fine.misuse) fun _ => Fine.withVl fun hv => Fine.setElems c h hv _ _)
  | .vcidx f => show Fine Q s (execVcidx f s) from
    Fine.withMods (Fine.ite (fun _ => Fine.misuse) fun _ => Fine.withVl fun hv => Fine.setElems c h hv _ _)
  | .vscan f => show Fine Q s (execVscan f s) from
    Fine.withMods (Fine.ite (fun _ => Fine.misuse) fun _ => Fine.withVl fun hv => Fine.setElems c h hv _ _)
  | .andR f => show Fine Q s (execAndR f s) from
    Fine.r2Op c h _ _ _
  | .orR f => show Fine Q s (execOrR f s) from
    Fine.r3Op c h _ _ _ _
  | .xorR f => show Fine Q s (execXorR f s) from
    Fine.r3Op c h _ _ _ _
  | .addR f => show Fine Q s (execAddR f s) from
    Fine.r2Op c h _ _ _
  | .sub f => show Fine Q s (execSub f s) from
    Fine.r2Op c h _ _ _
  | .mulR f => show Fine Q s (execMulR f s) from
    Fine.r2Op c h _ _ _
  | .nand f => show Fine Q s (execNand f s) from
    Fine.r2Op c h _ _ _
  | .nor f => show Fine Q s (execNor f s) from
    Fine.r2Op c h _ _ _
  | .xnor f => show Fine Q s (execXnor f s) from
    Fine.r2Op c h _ _ _
  | .mulfR0D f => show Fine Q s (execMulfR0D f s) from
    Fine.r2Op c h _ _ _
  | .muluR f => show Fine Q s (execMuluR f s) from
    Fine.r2Op c h _ _ _
  | .divR f => show Fine Q s (execDivR f s) from
    Fine.r2Op c h _ _ _
  | .divuR f => show Fine Q s (execDivuR f s) from
    Fine.r2Op c h _ _ _
  | .remR f => show Fine Q s (execRemR f s) from
    Fine.r2Op c h _ _ _
  | .remuR f => show Fine Q s (execRemuR f s) from
    Fine.r2Op c h _ _ _
  | .permR f => show Fine Q s (execPermR f s) from
    Fine.r2Op c h _ _ _
  | .dif f => show Fine Q s (execDif f s) from
    Fine.r2Op c h _ _ _
  | .sll f => show Fine Q s (execSll f s) from
    Fine.r2Op c h _ _ _
  | .slli f => show Fine Q s (execSlli f s) from
    Fine.shiftOp c h _ _
  | .wydndxR f => show Fine Q s (execWydndxR f s) from
    Fine.r2Op c h _ _ _
  | .mulfR f => show Fine Q s (execMulfR f s) from
    Fine.r2Op c h _ _ _
  | .cmp f => show Fine Q s (execCmp f s) from
    Fine.r2Op c h _ _ _
  | .srl f => show Fine Q s (execSrl f s) from
    Fine.r2Op c h _ _ _
  | .srli f => show Fine Q s (execSrli f s) from
    Fine.shiftOp c h _ _
  | .u21ndxR f => show Fine Q s (execU21ndxR f s) from
    Fine.r2Op c h _ _ _
  | .seqR f => show Fine Q s (execSeqR f s) from
    Fine.r2Op c h _ _ _
  | .sneR f => show Fine Q s (execSneR f s) from
    Fine.r2Op c h _ _ _
  | .min f => show Fine Q s (execMin f s) from
    Fine.r2Op c h _ _ _
  | .max f => show Fine Q s (execMax f s) from
    Fine.r2Op c h _ _ _
  | .sltR f => show Fine Q s (execSltR f s) from
    Fine.r2Op c h _ _ _
  | .sge f => show Fine Q s (execSge f s) from
    Fine.r2Op c h _ _ _
  | .sltuR f => show Fine Q s (execSltuR f s) from
    Fine.r2Op c h _ _ _
  | .sgeu f => show Fine Q s (execSgeu f s) from
    Fine.r2Op c h _ _ _
  | .bmm f => show Fine Q s (execBmm f s) from
    Fine.r2Op c h _ _ _
  | .mxorB f => show Fine Q s (execMxorB f s) from
    Fine.r2Op c h _ _ _
  | .setm f => show Fine Q s (execSetm f s) from
    Fine.setMaskOp c h _ _ _
  | .vsllv f => show Fine Q s (execVsllv f s) from
    Fine.withMods (Fine.ite (fun _ => Fine.misuse) fun _ => Fine.withVl fun hv => Fine.setElems c h hv _ _)
  | .vsrlv f => show Fine Q s (execVsrlv f s) from
    Fine.withMods (Fine.ite (fun _ => Fine.misuse) fun _ => Fine.withVl fun hv => Fine.setElems c h hv _ _)
  | .vex f => show Fine Q s (execVex f s) from
    Fine.withMods (Fine.ite (fun _ => Fine.misuse) fun _ => Fine.withVl fun _ =>
    Fine.ite (fun _ => Fine.refused _) fun _ => by
      split
      · exact Fine.setReg c h _ _
      · exact Fine.next (c.advance h))
  | .veins f => show Fine Q s (execVeins f s) from
    Fine.withMods (Fine.ite (fun _ => Fine.misuse) fun _ => Fine.withVl fun _ =>
    Fine.ite (fun _ => Fine.refused _) fun hx => Fine.next (c.advance (c.elem _ _ _ _ (Nat.lt_of_not_le hx) h)))
  | .rdCoeff f => show Fine Q s (execRdCoeff f s) from
    Fine.rdCoeff c h f
  | .wrCoeff f => show Fine Q s (execWrCoeff f s) from
    Fine.wrCoeff c h f
  | .mux f => show Fine Q s (execMux f s) from
    Fine.r3Op c h _ _ _ _
  | .sllp f => show Fine Q s (execSllp f s) from
    Fine.r3Op c h _ _ _ _
  | .sllpi f => show Fine Q s (execSllpi f s) from
    Fine.withMods (Fine.elementOp c h _ _ _ _ _ _)
  | .ptrdif f => show Fine Q s (execPtrdif f s) from
    Fine.r3Op c h _ _ _ _
  | .chkR f => show Fine Q s (execChkR f s) from
    Fine.withMods (Fine.ite (fun _ => Fine.refused _) fun _ => Fine.ite (fun _ => Fine.misuse) fun _ => Fine.checkOp c h _)
  | .blend f => show Fine Q s (execBlend f s) from
    Fine.r3Op c h _ _ _ _
  | .addI f => show Fine Q s (execAddI f s) from
    Fine.riOp c h _ _ _
  | .subf f => show Fine Q s (execSubf f s) from
    Fine.riOp c h _ _ _
  | .mulI f => show Fine Q s (execMulI f s) from
    Fine.riOp c h _ _ _
  | .andI f => show Fine Q s (execAndI f s) from
    Fine.riOp c h _ _ _
  | .orI f => show Fine Q s (execOrI f s) from
    Fine.riOp c h _ _ _
  | .xorI f => show Fine Q s (execXorI f s) from
    Fine.riOp c h _ _ _
  | .muluI f => show Fine Q s (execMuluI f s) from
    Fine.riOp c h _ _ _
  | .divI f => show Fine Q s (execDivI f s) from
    Fine.riOp c h _ _ _
  | .divuI f => show Fine Q s (execDivuI f s) from
    Fine.riOp c h _ _ _
  | .mulfI f => show Fine Q s (execMulfI f s) from
    Fine.riOp c h _ _ _
  | .permI f => show Fine Q s (execPermI f s) from
    Fine.riOp c h _ _ _
  | .remI f => show Fine Q s (execRemI f s) from
    Fine.riOp c h _ _ _
  | .remuI f => show Fine Q s (execRemuI f s) from
    Fine.riOp c h _ _ _
  | .wydndxI f => show Fine Q s (execWydndxI f s) from
    Fine.riOp c h _ _ _
  | .divr f => show Fine Q s (execDivr f s) from
    Fine.riOp c h _ _ _
  | .u21ndxI f => show Fine Q s (execU21ndxI f s) from
    Fine.riOp c h _ _ _
  | .seqI f => show Fine Q s (execSeqI f s) from
    Fine.riOp c h _ _ _
  | .sneI f => show Fine Q s (execSneI f s) from
    Fine.riOp c h _ _ _
  | .sltI f => show Fine Q s (execSltI f s) from
    Fine.riOp c h _ _ _
  | .sgtI f => show Fine Q s (execSgtI f s) from
    Fine.riOp c h _ _ _
  | .sltuI f => show Fine Q s (execSltuI f s) from
    Fine.riOp c h _ _ _
  | .sgtuI f => show Fine Q s (execSgtuI f s) from
    Fine.riOp c h _ _ _
  | .chkI f => show Fine Q s (execChkI f s) from
    Fine.withMods (Fine.ite (fun _ => Fine.refused _) fun _ => Fine.ite (fun _ => Fine.misuse) fun _ => Fine.checkOp c h _)
  | .csrx op2 f => show Fine Q s (execCsrx op2 f s) from
    Fine.csrOp c (y rfl) h _ _
  | .csrr f => show Fine Q s (execCsrr f s) from
    Fine.csrOp c (y rfl) h _ _
  | .csrw f => show Fine Q s (execCsrw f s) from
    Fine.csrOp c (y rfl) h _ _
  | .csrs f => show Fine Q s (execCsrs f s) from
    Fine.csrOp c (y rfl) h _ _
  | .csrc f => show Fine Q s (execCsrc f s) from
    Fine.csrOp c (y rfl) h _ _
  | .bytndxR f => show Fine Q s (execBytndxR f s) from
    Fine.withMods (Fine.byteSearchOp c h _ _ _ _ _ _ _)
  | .bytndxI f => show Fine Q s (execBytndxI f s) from
    Fine.withMods (Fine.byteSearchOp c h _ _ _ _ _ _ _)
  | .dep f => show Fine Q s (execDep f s) from
    Fine.r4Op c h _ _ _ _
  | .ext f => show Fine Q s (execExt f s) from
    Fine.r4Op c h _ _ _ _
  | .extu f => show Fine Q s (execExtu f s) from
    Fine.r4Op c h _ _ _ _
  | .ffo f => show Fine Q s (execFfo f s) from
    Fine.withMods (Fine.elementOp c h _ _ _ _ _ _)
  | .dfabs f => show Fine Q s (execDfabs f s) from
    Fine.r1Op c h _ _
  | .fmov f => show Fine Q s (execFmov f s) from
    Fine.r1Op c h _ _
  | .fsqrt f => show Fine Q s (execFsqrt f s) from
    Fine.r1Op c h _ _
  | .fabs f => show Fine Q s (execFabs f s) from
    Fine.r1Op c h _ _
  | .fnabs f => show Fine Q s (execFnabs f s) from
    Fine.r1Op c h _ _
  | .fneg f => show Fine Q s (execFneg f s) from
    Fine.r1Op c h _ _
  | .fmin f => show Fine Q s (execFmin f s) from
    Fine.r2Op c h _ _ _
  | .fmax f => show Fine Q s (execFmax f s) from
    Fine.r2Op c h _ _ _
  | .fadd f => show Fine Q s (execFadd f s) from
    Fine.r2Op c h _ _ _
  | .fsub f => show Fine Q s (execFsub f s) from
    Fine.r2Op c h _ _ _
  | .fmul f => show Fine Q s (execFmul f s) from
    Fine.r2Op c h _ _ _
  | .fdiv f => show Fine Q s (execFdiv f s) from
    Fine.r2Op c h _ _ _
  | .fcmp f => show Fine Q s (execFcmp f s) from
    Fine.r2Op c h _ _ _
  | .fseq f => show Fine Q s (execFseq f s) from
    Fine.r2Op c h _ _ _
  | .fslt f => show Fine Q s (execFslt f s) from
    Fine.r2Op c h _ _ _
  | .fsle f => show Fine Q s (execFsle f s) from
    Fine.r2Op c h _ _ _
  | .fsne f => show Fine Q s (execFsne f s) from
    Fine.r2Op c h _ _ _
  | .fcmpb f => show Fine Q s (execFcmpb f s) from
    Fine.r2Op c h _ _ _
  | .fsetm f => show Fine Q s (execFsetm f s) from
    Fine.setMaskOp c h _ _ _
  | .fdp f => show Fine Q s (execFdp f s) from
    Fine.r4Op c h _ _ _ _
  | .mand f => show Fine Q s (execMand f s) from
    Fine.maskOp c h _ _
  | .morM f => show Fine Q s (execMorM f s) from
    Fine.maskOp c h _ _
  | .mxorM f => show Fine Q s (execMxorM f s) from
    Fine.maskOp c h _ _
  | .madd f => show Fine Q s (execMadd f s) from
    Fine.maskOp c h _ _
  | .msub f => show Fine Q s (execMsub f s) from
    Fine.maskOp c h _ _
  | .msll f => show Fine Q s (execMsll f s) from
    Fine.withMods (Fine.setMask c h _ _)
  | .msrl f => show Fine Q s (execMsrl f s) from
    Fine.withMods (Fine.setMask c h _ _)
  | .mnand f => show Fine Q s (execMnand f s) from
    Fine.maskOp c h _ _
  | .mnor f => show Fine Q s (execMnor f s) from
    Fine.maskOp c h _ _
  | .mxnor f => show Fine Q s (execMxnor f s) from
    Fine.maskOp c h _ _
  | .mfill f => show Fine Q s (execMfill f s) from
    Fine.maskPutOp c h _ _
  | .mpop f => show Fine Q s (execMpop f s) from
    Fine.maskGetOp c h _ _
  | .mfirst f => show Fine Q s (execMfirst f s) from
    Fine.maskGetOp c h _ _
  | .mlast f => show Fine Q s (execMlast f s) from
    Fine.maskGetOp c h _ _
  | .mtm f => show Fine Q s (execMtm f s) from
    Fine.maskPutOp c h _ _
  | .mfm f => show Fine Q s (execMfm f s) from
    Fine.maskGetOp c h _ _
  | .mtvl f => show Fine Q s (execMtvl f s) from
    Fine.withMods (Fine.scalar fun _ => Fine.next (c.advance (c.vl s _ h)))
  | .mfvl f => show Fine Q s (execMfvl f s) from
    Fine.withMods (Fine.ite (fun _ => Fine.setReg c h _ _) (fun _ => Fine.misuse))
  | .cntlzM f => show Fine Q s (execCntlzM f s) from
    Fine.maskGetOp c h _ _
  | .nop v => show Fine Q s (execNop v s) from
    Fine.withMods (Fine.ite (fun _ => Fine.withVl fun _ => Fine.next (c.advance h)) fun _ => Fine.next (c.advance h))
  | .blt f => show Fine Q s (execBlt f s) from
    Fine.branchOp c h _ _ _
  | .bge f => show Fine Q s (execBge f s) from
    Fine.branchOp c h _ _ _
  | .bltu f => show Fine Q s (execBltu f s) from
    Fine.branchOp c h _ _ _
  | .bgeu f => show Fine Q s (execBgeu f s) from
    Fine.branchOp c h _ _ _
  | .bbs f => show Fine Q s (execBbs f s) from
    Fine.branchOp c h _ _ _
  | .beq f => show Fine Q s (execBeq f s) from
    Fine.branchOp c h _ _ _
  | .bne f => show Fine Q s (execBne f s) from
    Fine.branchOp c h _ _ _
  | .vectorBranch sel => show Fine Q s (execVectorBranch sel s) from
    Fine.raise _
  | .exi0 _ => absurd hm (by simp [isModifier])
  | .exi1 _ => absurd hm (by simp [isModifier])
  | .exi2 _ => absurd hm (by simp [isModifier])
  | .imod _ => absurd hm (by simp [isModifier])
  | .btfld _ => absurd hm (by simp [isModifier])
  | .brmod _ => absurd hm (by simp [isModifier])
  | .stride _ => absurd hm (by simp [isModifier])
  | .ldx func4 f => show Fine Q s (execLdx func4 f s) from
    Fine.loadOp c h _ _ _
  | .ldxZ func4 f => show Fine Q s (execLdxZ func4 f s) from
    Fine.loadOp c h _ _ _
  | .ldxX func4 f => show Fine Q s (execLdxX func4 f s) from
    Fine.loadXOp c h _ _ _
  | .ldxXZ func4 f => show Fine Q s (execLdxXZ func4 f s) from
    Fine.loadXOp c h _ _ _
  | .ldb f => show Fine Q s (execLdb f s) from
    Fine.loadOp c h _ _ _
  | .ldbx f => show Fine Q s (execLdbx f s) from
    Fine.loadXOp c h _ _ _
  | .ldbz f => show Fine Q s (execLdbz f s) from
    Fine.loadOp c h _ _ _
  | .ldbxz f => show Fine Q s (execLdbxz f s) from
    Fine.loadXOp c h _ _ _
  | .ldw f => show Fine Q s (execLdw f s) from
    Fine.loadOp c h _ _ _
  | .ldwx f => show Fine Q s (execLdwx f s) from
    Fine.loadXOp c h _ _ _
  | .ldwz f => show Fine Q s (execLdwz f s) from
    Fine.loadOp c h _ _ _
  | .ldwxz f => show Fine Q s (execLdwxz f s) from
    Fine.loadXOp c h _ _ _
  | .ldt f => show Fine Q s (execLdt f s) from
    Fine.loadOp c h _ _ _
  | .ldtx f => show Fine Q s (execLdtx f s) from
    Fine.loadXOp c h _ _ _
  | .ldtz f => show Fine Q s (execLdtz f s) from
    Fine.loadOp c h _ _ _
  | .ldtxz f => show Fine Q s (execLdtxz f s) from
    Fine.loadXOp c h _ _ _
  | .ldo f => show Fine Q s (execLdo f s) from
    Fine.loadOp c h _ _ _
  | .ldox f => show Fine Q s (execLdox f s) from
    Fine.loadXOp c h _ _ _
  | .ldoz f => show Fine Q s (execLdoz f s) from
    Fine.loadOp c h _ _ _
  | .ldoxz f => show Fine Q s (execLdoxz f s) from
    Fine.loadXOp c h _ _ _
  | .cache f => show Fine Q s (execCache f s) from
    Fine.cache c h f
  | .lea f => show Fine Q s (execLea f s) from
    Fine.lea c h f
  | .leaV f => show Fine Q s (execLeaV f s) from
    Fine.withMods (Fine.elementOp c h _ _ _ _ _ _)
  | .stx func4 f => show Fine Q s (execStx func4 f s) from
    Fine.stx c (m rfl) h _ f
  | .stxX func4 f => show Fine Q s (execStxX func4 f s) from
    Fine.stxX c (m rfl) h _ f
  | .stb f => show Fine Q s (execStb f s) from
    Fine.storeOp (fun _ _ => Fine.storeAt c (m rfl) h _ _ _) _
  | .stbx f => show Fine Q s (execStbx f s) from
    Fine.storeXOp (fun _ _ => Fine.storeAt c (m rfl) h _ _ _) _ _
  | .stw f => show Fine Q s (execStw f s) from
    Fine.storeOp (fun _ _ => Fine.storeAt c (m rfl) h _ _ _) _
  | .stwx f => show Fine Q s (execStwx f s) from
    Fine.storeXOp (fun _ _ => Fine.storeAt c (m rfl) h _ _ _) _ _
  | .stt f => show Fine Q s (execStt f s) from
    Fine.storeOp (fun _ _ => Fine.storeAt c (m rfl) h _ _ _) _
  | .sttx f => show Fine Q s (execSttx f s) from
    Fine.storeXOp (fun _ _ => Fine.storeAt c (m rfl) h _ _ _) _ _
  | .sto f => show Fine Q s (execSto f s) from
    Fine.storeOp (fun _ _ => Fine.storeAt c (m rfl) h _ _ _) _
  | .stox f => show Fine Q s (execStox f s) from
    Fine.storeXOp (fun _ _ => Fine.storeAt c (m rfl) h _ _ _) _ _
  | .stptr f => show Fine Q s (execStptr f s) from
    Fine.storeOp (fun _ _ => Fine.storePointerAt c (m rfl) h _ _) _
  | .stptrx f => show Fine Q s (execStptrx f s) from
    Fine.storeXOp (fun _ _ => Fine.storePointerAt c (m rfl) h _ _) _ _
  | .stbz f => show Fine Q s (execStbz f s) from
    Fine.storeOp (fun _ _ => Fine.storeZeroAt c (m rfl) h _ _ _ _) _
  | .stwz f => show Fine Q s (execStwz f s) from
    Fine.storeOp (fun _ _ => Fine.storeZeroAt c (m rfl) h _ _ _ _) _
  | .sttz f => show Fine Q s (execSttz f s) from
    Fine.storeOp (fun _ _ => Fine.storeZeroAt c (m rfl) h _ _ _ _) _
  | .stoz f => show Fine Q s (execStoz f s) from
    Fine.storeOp (fun _ _ => Fine.storeZeroAt c (m rfl) h _ _ _ _) _
  | .jal c26 rt2 => show Fine Q s (execJal c26 rt2 s) from
    Fine.withMods (Fine.linkJump c h _ _ _)
  | .jmp c26 => show Fine Q s (execJmp c26 s) from
    Fine.withMods (Fine.next (c.jump s _ h))
  | .bal c26 rt2 => show Fine Q s (execBal c26 rt2 s) from
    Fine.withMods (Fine.linkJump c h _ _ _)
  | .bra c26 => show Fine Q s (execBra c26 s) from
    Fine.withMods (Fine.next (c.jump s _ h))
  | .bsr c26 => show Fine Q s (execBsr c26 s) from
    Fine.withMods (Fine.linkJump c h _ _ _)
  | .jalr f => show Fine Q s (execJalr f s) from
    Fine.withMods (Fine.scalar fun _ => Fine.linkJump c h _ _ _)
  | .push f => show Fine Q s (execPush f s) from
    Fine.withMods (Fine.ite (fun _ => Fine.misuse) (fun _ => Fine.pushTo c h _ _))
  | .pop f => show Fine Q s (execPop f s) from
    Fine.withMods (Fine.ite (fun _ => Fine.misuse) (fun _ => Fine.popFrom c h _ _))
  | .peek f => show Fine Q s (execPeek f s) from
    Fine.withMods (Fine.ite (fun _ => Fine.misuse) (fun _ => Fine.peekFrom c h _ _))
  | .stat f => show Fine Q s (execStat f s) from
    Fine.withMods (Fine.ite (fun _ => Fine.misuse) (fun _ => Fine.statOf c h _ _))
  | .pushi f => show Fine Q s (execPushi f s) from
    Fine.withMods (Fine.ite (fun _ => Fine.misuse) (fun _ => Fine.pushTo c h _ _))
  | .popi f => show Fine Q s (execPopi f s) from
    Fine.withMods (Fine.ite (fun _ => Fine.misuse) (fun _ => Fine.popFrom c h _ _))
  | .peeki f => show Fine Q s (execPeeki f s) from
    Fine.withMods (Fine.ite (fun _ => Fine.misuse) (fun _ => Fine.peekFrom c h _ _))
  | .stati f => show Fine Q s (execStati f s) from
    Fine.withMods (Fine.ite (fun _ => Fine.misuse) (fun _ => Fine.statOf c h _ _))
  | .rex f => show Fine Q s (execRex f s) from
    Fine.rex c (y rfl) h f
  | .rte f => show Fine Q s (execRte f s) from
    Fine.rte (y rfl) h f
  | .tlbrw f => show Fine Q s (execTlbrw f s) from
    Fine.tlbrw c h f
  | .sysOther func7 f => show Fine Q s (execSysOther func7 f s) from
    Fine.raise _
  | .lds func4 f => show Fine Q s (execLds func4 f s) from
    Fine.vectorLoadOp c h _ _ _ _
  | .ldVX func4 f => show Fine Q s (execLdVX func4 f s) from
    Fine.vectorLoadOp c h _ _ _ _
  | .cvlds func4 f => show Fine Q s (execCvlds func4 f s) from
    Fine.vectorLoadOp c h _ _ _ _
  | .cvldVX func4 f => show Fine Q s (execCvldVX func4 f s) from
    Fine.vectorLoadOp c h _ _ _ _
  | .sts func4 f => show Fine Q s (execSts func4 f s) from
    Fine.vectorStoreOp c (m rfl) h _ _ _ _
  | .stVX func4 f => show Fine Q s (execStVX func4 f s) from
    Fine.vectorStoreOp c (m rfl) h _ _ _ _
  | .cvsts func4 f => show Fine Q s (execCvsts func4 f s) from
    Fine.vectorStoreOp c (m rfl) h _ _ _ _
  | .cvstVX func4 f => show Fine Q s (execCvstVX func4 f s) from
    Fine.vectorStoreOp c (m rfl) h _ _ _ _
  | .eorR f => show Fine Q s (execEorR f s) from
    Fine.r3Op c h _ _ _ _
  | .eorI f => show Fine Q s (execEorI f s) from
    Fine.riOp c h _ _ _
  | .morB f => show Fine Q s (execMorB f s) from
    Fine.r2Op c h _ _ _
  | .negSubf f => show Fine Q s (execNegSubf f s) from
    Fine.withMods (Fine.elementOp c h _ _ _ _ _ _)
  | .sra f => show Fine Q s (execSra f s) from
    Fine.r3Op c h _ _ _ _
  | .srlp f => show Fine Q s (execSrlp f s) from
    Fine.r3Op c h _ _ _ _
  | .sgtR f => show Fine Q s (execSgtR f s) from
    Fine.r2Op c h _ _ _
  | .sgtuR f => show Fine Q s (execSgtuR f s) from
    Fine.r2Op c h _ _ _
  | .sle f => show Fine Q s (execSle f s) from
    Fine.r2Op c h _ _ _
  | .sleu f => show Fine Q s (execSleu f s) from
    Fine.r2Op c h _ _ _
  | .sign f => show Fine Q s (execSign f s) from
    Fine.withMods (Fine.elementOp c h _ _ _ _ _ _)
  | .signF f => show Fine Q s (execSignF f s) from
    Fine.withMods (Fine.elementOp c h _ _ _ _ _ _)
  | .fsgt f => show Fine Q s (execFsgt f s) from
    Fine.r2Op c h _ _ _
  | .fsge f => show Fine Q s (execFsge f s) from
    Fine.r2Op c h _ _ _
  | .bgt f => show Fine Q s (execBgt f s) from
    Fine.branchOp c h _ _ _
  | .ble f => show Fine Q s (execBle f s) from
    Fine.branchOp c h _ _ _
  | .bgtu f => show Fine Q s (execBgtu f s) from
    Fine.branchOp c h _ _ _
  | .bleu f => show Fine Q s (execBleu f s) from
    Fine.branchOp c h _ _ _
  | .tst => Fine.refused _
  | .ptrinc => Fine.refused _
  | .transform => Fine.refused _
  | .mulh => Fine.refused _
  | .divsuR => Fine.refused _
  | .remsuR => Fine.refused _
  | .mulsuR => Fine.refused _
  | .mulsuh => Fine.refused _
  | .muluh => Fine.refused _
  | .rgf => Fine.refused _
  | .mort => Fine.refused _
  | .mxort => Fine.refused _
  | .divsuI => Fine.refused _
  | .mulsuI => Fine.refused _
  | .remsuI => Fine.refused _
  | .sand => Fine.refused _
  | .sor => Fine.refused _
  | .setGroup => Fine.refused _
  | .df1 => Fine.refused _
  | .df2 => Fine.refused _
  | .pst1 => Fine.refused _
  | .pst2 => Fine.refused _
  | .df3 => Fine.refused _
  | .df4 => Fine.refused _
  | .pst3 => Fine.refused _
  | .pst4 => Fine.refused _
  | .frsqrte => Fine.refused _
  | .ftoi => Fine.refused _
  | .itof => Fine.refused _
  | .fsign => Fine.refused _
  | .fman => Fine.refused _
  | .fs2d => Fine.refused _
  | .fs2q => Fine.refused _
  | .fd2q => Fine.refused _
  | .fstat => Fine.refused _
  | .isnan => Fine.refused _
  | .finite => Fine.refused _
  | .ftx => Fine.refused _
  | .fcx => Fine.refused _
  | .fex => Fine.refused _
  | .fdx => Fine.refused _
  | .frm => Fine.refused _
  | .trunc => Fine.refused _
  | .fsync => Fine.refused _
  | .fres => Fine.refused _
  | .fsigmoid => Fine.refused _
  | .fd2s => Fine.refused _
  | .fq2s => Fine.refused _
  | .fq2d => Fine.refused _
  | .fclass1 => Fine.refused _
  | .unord => Fine.refused _
  | .scaleb => Fine.refused _
  | .frem => Fine.refused _
  | .fnxt => Fine.refused _
  | .fandB => Fine.refused _
  | .forB => Fine.refused _
  | .cpysgn => Fine.refused _
  | .sgninv => Fine.refused _
  | .sgnand => Fine.refused _
  | .sgnor => Fine.refused _
  | .sgnxor => Fine.refused _
  | .sgnxnor => Fine.refused _
  | .fclass2 => Fine.refused _
  | .fma => Fine.refused _
  | .fms => Fine.refused _
  | .fnma => Fine.refused _
  | .fnms => Fine.refused _
  | .fblt => Fine.refused _
  | .fbge => Fine.refused _
  | .dfblt => Fine.refused _
  | .dfbge => Fine.refused _
  | .fbeq => Fine.refused _
  | .fbne => Fine.refused _
  | .exi3 => Fine.refused _
  | .exi4 => Fine.refused _
  | .unnamed5B => Fine.refused _
  | .vectorHalf => Fine.refused _
  | .lsm => Fine.refused _
  | .ret => show Fine Q s (execRet s) from
    Fine.withMods (Fine.next (c.jump s _ h))
  | .llal => Fine.refused _
  | .llah => Fine.refused _
  | .lpal => Fine.refused _
  | .lpah => Fine.refused _
  | .pfi => show Fine Q s (execPfi s) from
    Fine.pfi c h
  | .wfi => show Fine Q s (execWfi s) from
    Fine.withMods (Fine.next (c.advance (c.waiting s _ h)))
  | .setkey => Fine.refused _
  | .setto => Fine.refused _
  | .getto => Fine.refused _
  | .getzl => Fine.refused _
  | .mvseg => Fine.refused _
  | .sync => show Fine Q s (execSync s) from
    Fine.withMods (Fine.next (c.advance h))

/-- A modifier that may stand last changes nothing but the pending modifiers. -/
theorem tailOp_next {x : ModTail} {s t : State} (h : tailOp x s = .next t) : ∃ m, t = { s with mods := m } := by
  unfold tailOp at h
  split at h
  · cases h
    exact ⟨_, rfl⟩
  · cases h

/-- A modifier changes nothing but the pending modifiers. -/
theorem exec_modifier {i : Instr} {s t : State} (hm : isModifier i = true) (h : exec i s = .next t) :
    ∃ m, t = { s with mods := m } := by
  cases i <;> try cases hm
  case exi0 p =>
    simp only [exec, execExi0] at h
    split at h <;> cases h
    exact ⟨_, rfl⟩
  case exi1 p =>
    simp only [exec, execExi1] at h
    split at h <;> cases h
    exact ⟨_, rfl⟩
  case exi2 p =>
    simp only [exec, execExi2] at h
    split at h <;> cases h
    exact ⟨_, rfl⟩
  all_goals exact tailOp_next h

/-- What the updates keep, a bundle keeps, or it takes an exception from a state that differs in its modifiers only. -/
theorem runBundle_next (c : Closed Q) (hq : ∀ s m, Q s → Q { s with mods := m }) (m : StoreClosed Q)
    (y : SystemClosed Q) (n : Nat) (s t : State) (h : Q s) (e : runBundle n s = .next t) :
    (Q t ∧ t.mods = Mods.empty) ∨ ∃ k x, t = { s with mods := x }.takeTrap k := by
  induction n generalizing s with
  | zero => cases e
  | succ n ih =>
    simp only [runBundle] at e
    split at e
    · rename_i x _
      cases x <;> cases e
    · split at e
      · cases e
        exact .inr ⟨_, s.mods, rfl⟩
      · split at e
        · split at e
          · obtain ⟨x, rfl⟩ := exec_modifier ‹_› ‹_›
            rcases ih { s with mods := x } (hq s x h) e with h | ⟨k, x', rfl⟩
            · exact .inl h
            · exact .inr ⟨k, x', rfl⟩
          · cases e
          · cases e
        · have hi : isModifier _ = false := Bool.eq_false_iff.2 ‹_›
          rcases (exec_fine c h _ hi (fun _ => m) (fun _ => y)).next_cases t e with h | ⟨k, rfl⟩
          · exact .inl h
          · exact .inr ⟨k, s.mods, rfl⟩

end Sys2Proof.Machine
end

