-- ==== Sys2Proof/Laws/Memory.lean ====
section
/-! SUPPORT. Memory's canonical form: every memory operation keeps it, and the memory at reset has it. -/

namespace Sys2Proof.Machine

/-- The memory at reset has the canonical form. -/
theorem reset_memory_wf : Memory.wf State.reset.mem = true := rfl

/-- A byte store keeps the canonical form. -/
theorem State.setByte_memory_wf (s : State) (p : Nat) (b : Byte) (h : Memory.wf s.mem = true) :
    Memory.wf (s.setByte p b).mem = true := by
  unfold State.setByte
  split
  · exact h
  · exact sparseSet_wf 0#8 s.mem p b h

/-- A store of bytes keeps the canonical form. -/
theorem State.writeBytes_memory_wf (n : Nat) (s t : State) (a w : Word) (h : Memory.wf s.mem = true)
    (ht : s.writeBytes a w n = .ok t) : Memory.wf t.mem = true := by
  induction n generalizing s a w with
  | zero =>
    cases ht
    exact h
  | succ n ih =>
    simp only [State.writeBytes] at ht
    split at ht
    · cases ht
    · exact ih _ _ _ (State.setByte_memory_wf s _ _ h) ht

/-- A write keeps the canonical form. -/
theorem State.memWrite_memory_wf (s t : State) (a w : Word) (n : Nat) (h : Memory.wf s.mem = true)
    (ht : s.memWrite a n w = .ok t) : Memory.wf t.mem = true := by
  unfold State.memWrite at ht
  split at ht
  · cases ht
  · exact State.writeBytes_memory_wf n s t a w h ht

/-- STPTR's byte stores keep the canonical form. -/
theorem State.clearCards_memory_wf (n : Nat) (s t : State) (ea : Word) (h : Memory.wf s.mem = true)
    (ht : s.clearCards ea n = .ok t) : Memory.wf t.mem = true := by
  induction n generalizing s ea with
  | zero =>
    cases ht
    exact h
  | succ n ih =>
    simp only [State.clearCards] at ht
    split at ht
    · cases ht
      exact h
    · split at ht
      · cases ht
      · exact ih _ _ (State.memWrite_memory_wf s _ _ _ 1 h (by assumption)) ht

/-- The stores of a vector store keep the canonical form. -/
theorem State.storeMany_memory_wf (n : Nat) (l : List (Word × Word)) (s t : State) (h : Memory.wf s.mem = true)
    (ht : s.storeMany n l = .ok t) : Memory.wf t.mem = true := by
  induction l generalizing s with
  | nil =>
    cases ht
    exact h
  | cons c rest ih =>
    obtain ⟨a, w⟩ := c
    simp only [State.storeMany] at ht
    split at ht
    · cases ht
    · exact ih _ (State.memWrite_memory_wf s _ a w n h (by assumption)) ht

/-- Placing bytes from outside keeps the canonical form. -/
theorem State.placeBytes_memory_wf (n : Nat) (s : State) (a : Word) (w : Nat) (h : Memory.wf s.mem = true) :
    Memory.wf (s.placeBytes a w n).mem = true := by
  induction n generalizing s a w with
  | zero => exact h
  | succ n ih =>
    refine ih _ _ _ ?_
    unfold State.placeByte
    split
    · exact h
    · split
      · exact h
      · exact sparseSet_wf 0#8 s.mem _ _ h

end Sys2Proof.Machine
end

