-- ==== Sys2Proof/Laws/PerInstr.lean ====
section
/-! SUPPORT. The round trip, one lemma per constructor: a well-formed instruction has a word, and the word decodes to
it. -/

namespace Sys2Proof.Laws.RoundTrip

/-- A well-formed instruction has a word that decodes to it. -/
def Statement (i : Instr) : Prop := i.wellFormed = true → ∃ w, encode i = some w ∧ decode w = .ok i

/-! ## The cells of the Root Opcode Map -/

theorem decode_0x00 {w : Code} (h : fld w 0 7 = 0x00#7) : decode w = scalarOnly w (.brk (fld w 15 8)) := by
  rw [decode, h]
  rfl

theorem decode_0x01 {w : Code} (h : fld w 0 7 = 0x01#7) : decode w = decodeR1 w := by
  rw [decode, h]
  rfl

theorem decode_0x02 {w : Code} (h : fld w 0 7 = 0x02#7) : decode w = decodeR2 w := by
  rw [decode, h]
  rfl

theorem decode_0x03 {w : Code} (h : fld w 0 7 = 0x03#7) : decode w = decodeR3 w := by
  rw [decode, h]
  rfl

theorem decode_0x04 {w : Code} (h : fld w 0 7 = 0x04#7) : decode w = .ok (.addI (RIF.ofWord w)) := by
  rw [decode, h]
  rfl

theorem decode_0x05 {w : Code} (h : fld w 0 7 = 0x05#7) : decode w = .ok (.subf (RIF.ofWord w)) := by
  rw [decode, h]
  rfl

theorem decode_0x06 {w : Code} (h : fld w 0 7 = 0x06#7) : decode w = .ok (.mulI (RIF.ofWord w)) := by
  rw [decode, h]
  rfl

theorem decode_0x07 {w : Code} (h : fld w 0 7 = 0x07#7) : decode w = scalarHalf w (decodeSys w) := by
  rw [decode, h]
  rfl

theorem decode_0x08 {w : Code} (h : fld w 0 7 = 0x08#7) : decode w = .ok (.andI (RIF.ofWord w)) := by
  rw [decode, h]
  rfl

theorem decode_0x09 {w : Code} (h : fld w 0 7 = 0x09#7) : decode w = .ok (.orI (RIF.ofWord w)) := by
  rw [decode, h]
  rfl

theorem decode_0x0a {w : Code} (h : fld w 0 7 = 0x0a#7) : decode w = .ok (.xorI (RIF.ofWord w)) := by
  rw [decode, h]
  rfl

theorem decode_0x0d {w : Code} (h : fld w 0 7 = 0x0d#7) : decode w = .ok .setGroup := by
  rw [decode, h]
  rfl

theorem decode_0x0e {w : Code} (h : fld w 0 7 = 0x0e#7) : decode w = .ok (.muluI (RIF.ofWord w)) := by
  rw [decode, h]
  rfl

theorem decode_0x0f {w : Code} (h : fld w 0 7 = 0x0f#7) : decode w = scalarHalf w (decodeCsr w) := by
  rw [decode, h]
  rfl

theorem decode_0x10 {w : Code} (h : fld w 0 7 = 0x10#7) : decode w = .ok (.divI (RIF.ofWord w)) := by
  rw [decode, h]
  rfl

theorem decode_0x11 {w : Code} (h : fld w 0 7 = 0x11#7) : decode w = .ok (.divuI (RIF.ofWord w)) := by
  rw [decode, h]
  rfl

theorem decode_0x12 {w : Code} (h : fld w 0 7 = 0x12#7) : decode w = .ok (.divsuI) := by
  rw [decode, h]
  rfl

theorem decode_0x15 {w : Code} (h : fld w 0 7 = 0x15#7) : decode w = .ok (.mulfI (RIF.ofWord w)) := by
  rw [decode, h]
  rfl

theorem decode_0x16 {w : Code} (h : fld w 0 7 = 0x16#7) : decode w = .ok (.mulsuI) := by
  rw [decode, h]
  rfl

theorem decode_0x17 {w : Code} (h : fld w 0 7 = 0x17#7) : decode w = .ok (.permI (RIF.ofWord w)) := by
  rw [decode, h]
  rfl

theorem decode_0x18 {w : Code} (h : fld w 0 7 = 0x18#7) : decode w = .ok (.remI (RIF.ofWord w)) := by
  rw [decode, h]
  rfl

theorem decode_0x19 {w : Code} (h : fld w 0 7 = 0x19#7) : decode w = .ok (.remuI (RIF.ofWord w)) := by
  rw [decode, h]
  rfl

theorem decode_0x1a {w : Code} (h : fld w 0 7 = 0x1a#7) : decode w = decodeBytndx w := by
  rw [decode, h]
  rfl

theorem decode_0x1b {w : Code} (h : fld w 0 7 = 0x1b#7) : decode w = .ok (.wydndxI (RIF.ofWord w)) := by
  rw [decode, h]
  rfl

theorem decode_0x1c {w : Code} (h : fld w 0 7 = 0x1c#7) : decode w = decodeBitField w := by
  rw [decode, h]
  rfl

theorem decode_0x20 {w : Code} (h : fld w 0 7 = 0x20#7) : decode w = .ok (.remsuI) := by
  rw [decode, h]
  rfl

theorem decode_0x21 {w : Code} (h : fld w 0 7 = 0x21#7) : decode w = .ok (.divr (RIF.ofWord w)) := by
  rw [decode, h]
  rfl

theorem decode_0x22 {w : Code} (h : fld w 0 7 = 0x22#7) : decode w = .ok (.chkI (ChkIF.ofWord w)) := by
  rw [decode, h]
  rfl

theorem decode_0x23 {w : Code} (h : fld w 0 7 = 0x23#7) : decode w = .ok (.u21ndxI (RIF.ofWord w)) := by
  rw [decode, h]
  rfl

theorem decode_0x24 {w : Code} (h : fld w 0 7 = 0x24#7) : decode w = scalarOnly w (.sand) := by
  rw [decode, h]
  rfl

theorem decode_0x25 {w : Code} (h : fld w 0 7 = 0x25#7) : decode w = scalarOnly w (.sor) := by
  rw [decode, h]
  rfl

theorem decode_0x26 {w : Code} (h : fld w 0 7 = 0x26#7) : decode w = .ok (.seqI (RIF.ofWord w)) := by
  rw [decode, h]
  rfl

theorem decode_0x27 {w : Code} (h : fld w 0 7 = 0x27#7) : decode w = .ok (.sneI (RIF.ofWord w)) := by
  rw [decode, h]
  rfl

theorem decode_0x28 {w : Code} (h : fld w 0 7 = 0x28#7) : decode w = .ok (.sltI (RIF.ofWord w)) := by
  rw [decode, h]
  rfl

theorem decode_0x29 {w : Code} (h : fld w 0 7 = 0x29#7) : decode w = .ok (.sgtI (RIF.ofWord w)) := by
  rw [decode, h]
  rfl

theorem decode_0x2a {w : Code} (h : fld w 0 7 = 0x2a#7) : decode w = .ok (.sltuI (RIF.ofWord w)) := by
  rw [decode, h]
  rfl

theorem decode_0x2b {w : Code} (h : fld w 0 7 = 0x2b#7) : decode w = .ok (.sgtuI (RIF.ofWord w)) := by
  rw [decode, h]
  rfl

theorem decode_0x30 {w : Code} (h : fld w 0 7 = 0x30#7) : decode w = decodeDF1 w := by
  rw [decode, h]
  rfl

theorem decode_0x31 {w : Code} (h : fld w 0 7 = 0x31#7) : decode w = .ok .df2 := by
  rw [decode, h]
  rfl

theorem decode_0x32 {w : Code} (h : fld w 0 7 = 0x32#7) : decode w = .ok .df3 := by
  rw [decode, h]
  rfl

theorem decode_0x33 {w : Code} (h : fld w 0 7 = 0x33#7) : decode w = .ok .df4 := by
  rw [decode, h]
  rfl

theorem decode_0x34 {w : Code} (h : fld w 0 7 = 0x34#7) : decode w = decodeF1 w := by
  rw [decode, h]
  rfl

theorem decode_0x35 {w : Code} (h : fld w 0 7 = 0x35#7) : decode w = decodeF2 w := by
  rw [decode, h]
  rfl

theorem decode_0x36 {w : Code} (h : fld w 0 7 = 0x36#7) : decode w = decodeF3 w := by
  rw [decode, h]
  rfl

theorem decode_0x37 {w : Code} (h : fld w 0 7 = 0x37#7) : decode w = decodeF4 w := by
  rw [decode, h]
  rfl

theorem decode_0x38 {w : Code} (h : fld w 0 7 = 0x38#7) : decode w = .ok .pst1 := by
  rw [decode, h]
  rfl

theorem decode_0x39 {w : Code} (h : fld w 0 7 = 0x39#7) : decode w = .ok .pst2 := by
  rw [decode, h]
  rfl

theorem decode_0x3a {w : Code} (h : fld w 0 7 = 0x3a#7) : decode w = .ok .pst3 := by
  rw [decode, h]
  rfl

theorem decode_0x3b {w : Code} (h : fld w 0 7 = 0x3b#7) : decode w = .ok .pst4 := by
  rw [decode, h]
  rfl

theorem decode_0x3e {w : Code} (h : fld w 0 7 = 0x3e#7) : decode w = scalarHalf w (decodeVM w) := by
  rw [decode, h]
  rfl

theorem decode_0x3f {w : Code} (h : fld w 0 7 = 0x3f#7) : decode w = .ok (.nop (bit w 7)) := by
  rw [decode, h]
  rfl

theorem decode_0x40 {w : Code} (h : fld w 0 7 = 0x40#7) : decode w = scalarOnly w .fblt := by
  rw [decode, h]
  rfl

theorem decode_0x41 {w : Code} (h : fld w 0 7 = 0x41#7) : decode w = scalarOnly w .fbge := by
  rw [decode, h]
  rfl

theorem decode_0x42 {w : Code} (h : fld w 0 7 = 0x42#7) : decode w = scalarOnly w .dfblt := by
  rw [decode, h]
  rfl

theorem decode_0x43 {w : Code} (h : fld w 0 7 = 0x43#7) : decode w = scalarOnly w .dfbge := by
  rw [decode, h]
  rfl

theorem decode_0x46 {w : Code} (h : fld w 0 7 = 0x46#7) : decode w = scalarOnly w .fbeq := by
  rw [decode, h]
  rfl

theorem decode_0x47 {w : Code} (h : fld w 0 7 = 0x47#7) : decode w = scalarOnly w .fbne := by
  rw [decode, h]
  rfl

theorem decode_0x48 {w : Code} (h : fld w 0 7 = 0x48#7) : decode w = branchOr w (.blt (BrF.ofWord w)) := by
  rw [decode, h]
  rfl

theorem decode_0x49 {w : Code} (h : fld w 0 7 = 0x49#7) : decode w = branchOr w (.bge (BrF.ofWord w)) := by
  rw [decode, h]
  rfl

theorem decode_0x4a {w : Code} (h : fld w 0 7 = 0x4a#7) : decode w = branchOr w (.bltu (BrF.ofWord w)) := by
  rw [decode, h]
  rfl

theorem decode_0x4b {w : Code} (h : fld w 0 7 = 0x4b#7) : decode w = branchOr w (.bgeu (BrF.ofWord w)) := by
  rw [decode, h]
  rfl

theorem decode_0x4c {w : Code} (h : fld w 0 7 = 0x4c#7) : decode w = vectorOnly w (.vectorBranch (fld w 0 3)) := by
  rw [decode, h]
  rfl

theorem decode_0x4d {w : Code} (h : fld w 0 7 = 0x4d#7) : decode w = branchOr w (.bbs (BrF.ofWord w)) := by
  rw [decode, h]
  rfl

theorem decode_0x4e {w : Code} (h : fld w 0 7 = 0x4e#7) : decode w = branchOr w (.beq (BrF.ofWord w)) := by
  rw [decode, h]
  rfl

theorem decode_0x4f {w : Code} (h : fld w 0 7 = 0x4f#7) : decode w = branchOr w (.bne (BrF.ofWord w)) := by
  rw [decode, h]
  rfl

theorem decode_0x50 {w : Code} (h : fld w 0 7 = 0x50#7) : decode w = scalarOnly w (.exi0 (fld w 8 28)) := by
  rw [decode, h]
  rfl

theorem decode_0x51 {w : Code} (h : fld w 0 7 = 0x51#7) : decode w = scalarOnly w (.exi1 (fld w 8 28)) := by
  rw [decode, h]
  rfl

theorem decode_0x52 {w : Code} (h : fld w 0 7 = 0x52#7) : decode w = scalarOnly w (.exi2 (fld w 8 28)) := by
  rw [decode, h]
  rfl

theorem decode_0x53 {w : Code} (h : fld w 0 7 = 0x53#7) : decode w = scalarOnly w .exi3 := by
  rw [decode, h]
  rfl

theorem decode_0x54 {w : Code} (h : fld w 0 7 = 0x54#7) : decode w = scalarOnly w .exi4 := by
  rw [decode, h]
  rfl

theorem decode_0x58 {w : Code} (h : fld w 0 7 = 0x58#7) : decode w = halfOr w (.imod (ImodF.ofWord w)) := by
  rw [decode, h]
  rfl

theorem decode_0x59 {w : Code} (h : fld w 0 7 = 0x59#7) : decode w = halfOr w (.btfld (ImodF.ofWord w)) := by
  rw [decode, h]
  rfl

theorem decode_0x5a {w : Code} (h : fld w 0 7 = 0x5a#7) : decode w = halfOr w (.brmod (BrmodF.ofWord w)) := by
  rw [decode, h]
  rfl

theorem decode_0x5b {w : Code} (h : fld w 0 7 = 0x5b#7) : decode w = scalarOnly w .unnamed5B := by
  rw [decode, h]
  rfl

theorem decode_0x5c {w : Code} (h : fld w 0 7 = 0x5c#7) : decode w = halfOr w (.stride (StrideF.ofWord w)) := by
  rw [decode, h]
  rfl

theorem decode_0x60 {w : Code} (h : fld w 0 7 = 0x60#7) : decode w = scalarHalf w (decodeLoad w) := by
  rw [decode, h]
  rfl

theorem decode_0x61 {w : Code} (h : fld w 0 7 = 0x61#7) : decode w = scalarHalf w (decodeLoadX w) := by
  rw [decode, h]
  rfl

theorem decode_0x62 {w : Code} (h : fld w 0 7 = 0x62#7) : decode w = vectorOnly w (.lds (fld w 32 4) (LdF.ofWord w)) := by
  rw [decode, h]
  rfl

theorem decode_0x63 {w : Code} (h : fld w 0 7 = 0x63#7) : decode w = vectorOnly w (.ldVX (fld w 32 4) (LdF.ofWord w)) := by
  rw [decode, h]
  rfl

theorem decode_0x64 {w : Code} (h : fld w 0 7 = 0x64#7) : decode w = scalarHalf w (decodeLoadZ w) := by
  rw [decode, h]
  rfl

theorem decode_0x65 {w : Code} (h : fld w 0 7 = 0x65#7) : decode w = scalarHalf w (decodeLoadXZ w) := by
  rw [decode, h]
  rfl

theorem decode_0x66 {w : Code} (h : fld w 0 7 = 0x66#7) : decode w = vectorOnly w (.cvlds (fld w 32 4) (LdF.ofWord w)) := by
  rw [decode, h]
  rfl

theorem decode_0x67 {w : Code} (h : fld w 0 7 = 0x67#7) : decode w = vectorOnly w (.cvldVX (fld w 32 4) (LdF.ofWord w)) := by
  rw [decode, h]
  rfl

theorem decode_0x6f {w : Code} (h : fld w 0 7 = 0x6f#7) : decode w = scalarOnly w .lsm := by
  rw [decode, h]
  rfl

theorem decode_0x70 {w : Code} (h : fld w 0 7 = 0x70#7) : decode w = scalarHalf w (decodeStore w) := by
  rw [decode, h]
  rfl

theorem decode_0x71 {w : Code} (h : fld w 0 7 = 0x71#7) : decode w = scalarHalf w (decodeStoreX w) := by
  rw [decode, h]
  rfl

theorem decode_0x72 {w : Code} (h : fld w 0 7 = 0x72#7) : decode w = vectorOnly w (.sts (fld w 32 4) (StF.ofWord w)) := by
  rw [decode, h]
  rfl

theorem decode_0x73 {w : Code} (h : fld w 0 7 = 0x73#7) : decode w = vectorOnly w (.stVX (fld w 32 4) (StF.ofWord w)) := by
  rw [decode, h]
  rfl

theorem decode_0x76 {w : Code} (h : fld w 0 7 = 0x76#7) : decode w = vectorOnly w (.cvsts (fld w 32 4) (StF.ofWord w)) := by
  rw [decode, h]
  rfl

theorem decode_0x77 {w : Code} (h : fld w 0 7 = 0x77#7) : decode w = vectorOnly w (.cvstVX (fld w 32 4) (StF.ofWord w)) := by
  rw [decode, h]
  rfl

theorem decode_0x78 {w : Code} (h : fld w 0 7 = 0x78#7) : decode w = scalarHalf w (decodeJal w) := by
  rw [decode, h]
  rfl

theorem decode_0x79 {w : Code} (h : fld w 0 7 = 0x79#7) : decode w = scalarHalf w (decodeBal w) := by
  rw [decode, h]
  rfl

theorem decode_0x7a {w : Code} (h : fld w 0 7 = 0x7a#7) : decode w = scalarHalf w (decodeJalr w) := by
  rw [decode, h]
  rfl

/-! ## Rows of one half of the map -/

theorem vectorOnly_ok {w : Code} {i : Instr} (h : bit w 7 = true) : vectorOnly w i = .ok i := by rw [vectorOnly, h]; rfl

theorem scalarOnly_ok {w : Code} {i : Instr} (h : bit w 7 = false) : scalarOnly w i = .ok i := by rw [scalarOnly, h]; rfl

theorem halfOr_ok {w : Code} {i : Instr} (h : bit w 7 = false) : halfOr w i = .ok i := by rw [halfOr, h]; rfl

theorem branchOr_ok {w : Code} {i : Instr} (h : bit w 7 = false) : branchOr w i = .ok i := by rw [branchOr, h]; rfl

theorem scalarHalf_eq {w : Code} {r : Except DecodeError Instr} (h : bit w 7 = false) : scalarHalf w r = r := by
  rw [scalarHalf, h]
  rfl

/-! ## The constructors -/

theorem brk (cause : BitVec 8) : Statement (.brk cause) :=
  fun _ => ⟨_, rfl, by rw [decode_0x00 (by simp), scalarOnly_ok (by simp)]; simp⟩

theorem cntlz (f : R1F) : Statement (.cntlz f) := fun _ => by
  refine ⟨_, rfl, ?_⟩
  rw [decode_0x01 (R1F.root_toWord ..), decodeR1, R1F.func_toWord, R1F.ofWord_toWord]
  rfl

theorem cntlo (f : R1F) : Statement (.cntlo f) := fun _ => by
  refine ⟨_, rfl, ?_⟩
  rw [decode_0x01 (R1F.root_toWord ..), decodeR1, R1F.func_toWord, R1F.ofWord_toWord]
  rfl

theorem cntpop (f : R1F) : Statement (.cntpop f) := fun _ => by
  refine ⟨_, rfl, ?_⟩
  rw [decode_0x01 (R1F.root_toWord ..), decodeR1, R1F.func_toWord, R1F.ofWord_toWord]
  rfl

theorem com (f : R1F) : Statement (.com f) := fun _ => by
  refine ⟨_, rfl, ?_⟩
  rw [decode_0x01 (R1F.root_toWord ..), decodeR1, R1F.func_toWord, R1F.ofWord_toWord]
  rfl

theorem notL (f : R1F) : Statement (.notL f) := fun _ => by
  refine ⟨_, rfl, ?_⟩
  rw [decode_0x01 (R1F.root_toWord ..), decodeR1, R1F.func_toWord, R1F.ofWord_toWord]
  rfl

theorem neg (f : R1F) : Statement (.neg f) := fun _ => by
  refine ⟨_, rfl, ?_⟩
  rw [decode_0x01 (R1F.root_toWord ..), decodeR1, R1F.func_toWord, R1F.ofWord_toWord]
  rfl

theorem abs (f : R1F) : Statement (.abs f) := fun _ => by
  refine ⟨_, rfl, ?_⟩
  rw [decode_0x01 (R1F.root_toWord ..), decodeR1, R1F.func_toWord, R1F.ofWord_toWord]
  rfl

theorem nabs (f : R1F) : Statement (.nabs f) := fun _ => by
  refine ⟨_, rfl, ?_⟩
  rw [decode_0x01 (R1F.root_toWord ..), decodeR1, R1F.func_toWord, R1F.ofWord_toWord]
  rfl

theorem sqrt (f : R1F) : Statement (.sqrt f) := fun _ => by
  refine ⟨_, rfl, ?_⟩
  rw [decode_0x01 (R1F.root_toWord ..), decodeR1, R1F.func_toWord, R1F.ofWord_toWord]
  rfl

theorem zxb (f : R1F) : Statement (.zxb f) := fun _ => by
  refine ⟨_, rfl, ?_⟩
  rw [decode_0x01 (R1F.root_toWord ..), decodeR1, R1F.func_toWord, R1F.ofWord_toWord]
  rfl

theorem zxw (f : R1F) : Statement (.zxw f) := fun _ => by
  refine ⟨_, rfl, ?_⟩
  rw [decode_0x01 (R1F.root_toWord ..), decodeR1, R1F.func_toWord, R1F.ofWord_toWord]
  rfl

theorem zxt (f : R1F) : Statement (.zxt f) := fun _ => by
  refine ⟨_, rfl, ?_⟩
  rw [decode_0x01 (R1F.root_toWord ..), decodeR1, R1F.func_toWord, R1F.ofWord_toWord]
  rfl

theorem sxb (f : R1F) : Statement (.sxb f) := fun _ => by
  refine ⟨_, rfl, ?_⟩
  rw [decode_0x01 (R1F.root_toWord ..), decodeR1, R1F.func_toWord, R1F.ofWord_toWord]
  rfl

theorem sxw (f : R1F) : Statement (.sxw f) := fun _ => by
  refine ⟨_, rfl, ?_⟩
  rw [decode_0x01 (R1F.root_toWord ..), decodeR1, R1F.func_toWord, R1F.ofWord_toWord]
  rfl

theorem sxt (f : R1F) : Statement (.sxt f) := fun _ => by
  refine ⟨_, rfl, ?_⟩
  rw [decode_0x01 (R1F.root_toWord ..), decodeR1, R1F.func_toWord, R1F.ofWord_toWord]
  rfl

theorem v2bits (f : R1F) : Statement (.v2bits f) := by
  intro h
  refine ⟨_, rfl, ?_⟩
  rw [decode_0x01 (R1F.root_toWord ..), decodeR1, R1F.func_toWord, R1F.ofWord_toWord]
  exact vectorOnly_ok ((R1F.half_toWord ..).trans h)

theorem vbits2v (f : R1F) : Statement (.vbits2v f) := by
  intro h
  refine ⟨_, rfl, ?_⟩
  rw [decode_0x01 (R1F.root_toWord ..), decodeR1, R1F.func_toWord, R1F.ofWord_toWord]
  exact vectorOnly_ok ((R1F.half_toWord ..).trans h)

theorem vcmprss (f : R1F) : Statement (.vcmprss f) := by
  intro h
  refine ⟨_, rfl, ?_⟩
  rw [decode_0x01 (R1F.root_toWord ..), decodeR1, R1F.func_toWord, R1F.ofWord_toWord]
  exact vectorOnly_ok ((R1F.half_toWord ..).trans h)

theorem vcidx (f : R1F) : Statement (.vcidx f) := by
  intro h
  refine ⟨_, rfl, ?_⟩
  rw [decode_0x01 (R1F.root_toWord ..), decodeR1, R1F.func_toWord, R1F.ofWord_toWord]
  exact vectorOnly_ok ((R1F.half_toWord ..).trans h)

theorem vscan (f : R1F) : Statement (.vscan f) := by
  intro h
  refine ⟨_, rfl, ?_⟩
  rw [decode_0x01 (R1F.root_toWord ..), decodeR1, R1F.func_toWord, R1F.ofWord_toWord]
  exact vectorOnly_ok ((R1F.half_toWord ..).trans h)

theorem andR (f : R2F) : Statement (.andR f) := fun _ => by
  refine ⟨_, rfl, ?_⟩
  rw [decode_0x02 (R2F.root_toWord ..), decodeR2, R2F.func_toWord, R2F.ofWord_toWord]
  rfl

theorem orR (f : R2F) : Statement (.orR f) := fun _ => by
  refine ⟨_, rfl, ?_⟩
  rw [decode_0x02 (R2F.root_toWord ..), decodeR2, R2F.func_toWord, R2F.ofWord_toWord]
  rfl

theorem xorR (f : R2F) : Statement (.xorR f) := fun _ => by
  refine ⟨_, rfl, ?_⟩
  rw [decode_0x02 (R2F.root_toWord ..), decodeR2, R2F.func_toWord, R2F.ofWord_toWord]
  rfl

theorem addR (f : R2F) : Statement (.addR f) := fun _ => by
  refine ⟨_, rfl, ?_⟩
  rw [decode_0x02 (R2F.root_toWord ..), decodeR2, R2F.func_toWord, R2F.ofWord_toWord]
  rfl

theorem sub (f : R2F) : Statement (.sub f) := fun _ => by
  refine ⟨_, rfl, ?_⟩
  rw [decode_0x02 (R2F.root_toWord ..), decodeR2, R2F.func_toWord, R2F.ofWord_toWord]
  rfl

theorem mulR (f : R2F) : Statement (.mulR f) := fun _ => by
  refine ⟨_, rfl, ?_⟩
  rw [decode_0x02 (R2F.root_toWord ..), decodeR2, R2F.func_toWord, R2F.ofWord_toWord]
  rfl

theorem nand (f : R2F) : Statement (.nand f) := fun _ => by
  refine ⟨_, rfl, ?_⟩
  rw [decode_0x02 (R2F.root_toWord ..), decodeR2, R2F.func_toWord, R2F.ofWord_toWord]
  rfl

theorem nor (f : R2F) : Statement (.nor f) := fun _ => by
  refine ⟨_, rfl, ?_⟩
  rw [decode_0x02 (R2F.root_toWord ..), decodeR2, R2F.func_toWord, R2F.ofWord_toWord]
  rfl

theorem xnor (f : R2F) : Statement (.xnor f) := fun _ => by
  refine ⟨_, rfl, ?_⟩
  rw [decode_0x02 (R2F.root_toWord ..), decodeR2, R2F.func_toWord, R2F.ofWord_toWord]
  rfl

theorem mulfR0D (f : R2F) : Statement (.mulfR0D f) := fun _ => by
  refine ⟨_, rfl, ?_⟩
  rw [decode_0x02 (R2F.root_toWord ..), decodeR2, R2F.func_toWord, R2F.ofWord_toWord]
  rfl

theorem muluR (f : R2F) : Statement (.muluR f) := fun _ => by
  refine ⟨_, rfl, ?_⟩
  rw [decode_0x02 (R2F.root_toWord ..), decodeR2, R2F.func_toWord, R2F.ofWord_toWord]
  rfl

theorem divR (f : R2F) : Statement (.divR f) := fun _ => by
  refine ⟨_, rfl, ?_⟩
  rw [decode_0x02 (R2F.root_toWord ..), decodeR2, R2F.func_toWord, R2F.ofWord_toWord]
  rfl

theorem divuR (f : R2F) : Statement (.divuR f) := fun _ => by
  refine ⟨_, rfl, ?_⟩
  rw [decode_0x02 (R2F.root_toWord ..), decodeR2, R2F.func_toWord, R2F.ofWord_toWord]
  rfl

theorem remR (f : R2F) : Statement (.remR f) := fun _ => by
  refine ⟨_, rfl, ?_⟩
  rw [decode_0x02 (R2F.root_toWord ..), decodeR2, R2F.func_toWord, R2F.ofWord_toWord]
  rfl

theorem remuR (f : R2F) : Statement (.remuR f) := fun _ => by
  refine ⟨_, rfl, ?_⟩
  rw [decode_0x02 (R2F.root_toWord ..), decodeR2, R2F.func_toWord, R2F.ofWord_toWord]
  rfl

theorem permR (f : R2F) : Statement (.permR f) := fun _ => by
  refine ⟨_, rfl, ?_⟩
  rw [decode_0x02 (R2F.root_toWord ..), decodeR2, R2F.func_toWord, R2F.ofWord_toWord]
  rfl

theorem dif (f : R2F) : Statement (.dif f) := fun _ => by
  refine ⟨_, rfl, ?_⟩
  rw [decode_0x02 (R2F.root_toWord ..), decodeR2, R2F.func_toWord, R2F.ofWord_toWord]
  rfl

theorem sll (f : R2F) : Statement (.sll f) := fun _ => by
  refine ⟨_, rfl, ?_⟩
  rw [decode_0x02 (R2F.root_toWord ..), decodeR2, R2F.func_toWord, R2F.ofWord_toWord]
  rfl

theorem slli (f : ShiftF) : Statement (.slli f) := fun _ => by
  refine ⟨_, rfl, ?_⟩
  rw [decode_0x02 (ShiftF.root_toWord ..), decodeR2, ShiftF.func_toWord, ShiftF.ofWord_toWord]
  rfl

theorem wydndxR (f : R2F) : Statement (.wydndxR f) := fun _ => by
  refine ⟨_, rfl, ?_⟩
  rw [decode_0x02 (R2F.root_toWord ..), decodeR2, R2F.func_toWord, R2F.ofWord_toWord]
  rfl

theorem mulfR (f : R2F) : Statement (.mulfR f) := fun _ => by
  refine ⟨_, rfl, ?_⟩
  rw [decode_0x02 (R2F.root_toWord ..), decodeR2, R2F.func_toWord, R2F.ofWord_toWord]
  rfl

theorem cmp (f : R2F) : Statement (.cmp f) := fun _ => by
  refine ⟨_, rfl, ?_⟩
  rw [decode_0x02 (R2F.root_toWord ..), decodeR2, R2F.func_toWord, R2F.ofWord_toWord]
  rfl

theorem srl (f : R2F) : Statement (.srl f) := fun _ => by
  refine ⟨_, rfl, ?_⟩
  rw [decode_0x02 (R2F.root_toWord ..), decodeR2, R2F.func_toWord, R2F.ofWord_toWord]
  rfl

theorem srli (f : ShiftF) : Statement (.srli f) := fun _ => by
  refine ⟨_, rfl, ?_⟩
  rw [decode_0x02 (ShiftF.root_toWord ..), decodeR2, ShiftF.func_toWord, ShiftF.ofWord_toWord]
  rfl

theorem u21ndxR (f : R2F) : Statement (.u21ndxR f) := fun _ => by
  refine ⟨_, rfl, ?_⟩
  rw [decode_0x02 (R2F.root_toWord ..), decodeR2, R2F.func_toWord, R2F.ofWord_toWord]
  rfl

theorem seqR (f : R2F) : Statement (.seqR f) := fun _ => by
  refine ⟨_, rfl, ?_⟩
  rw [decode_0x02 (R2F.root_toWord ..), decodeR2, R2F.func_toWord, R2F.ofWord_toWord]
  rfl

theorem sneR (f : R2F) : Statement (.sneR f) := fun _ => by
  refine ⟨_, rfl, ?_⟩
  rw [decode_0x02 (R2F.root_toWord ..), decodeR2, R2F.func_toWord, R2F.ofWord_toWord]
  rfl

theorem min (f : R2F) : Statement (.min f) := fun _ => by
  refine ⟨_, rfl, ?_⟩
  rw [decode_0x02 (R2F.root_toWord ..), decodeR2, R2F.func_toWord, R2F.ofWord_toWord]
  rfl

theorem max (f : R2F) : Statement (.max f) := fun _ => by
  refine ⟨_, rfl, ?_⟩
  rw [decode_0x02 (R2F.root_toWord ..), decodeR2, R2F.func_toWord, R2F.ofWord_toWord]
  rfl

theorem sltR (f : R2F) : Statement (.sltR f) := fun _ => by
  refine ⟨_, rfl, ?_⟩
  rw [decode_0x02 (R2F.root_toWord ..), decodeR2, R2F.func_toWord, R2F.ofWord_toWord]
  rfl

theorem sge (f : R2F) : Statement (.sge f) := fun _ => by
  refine ⟨_, rfl, ?_⟩
  rw [decode_0x02 (R2F.root_toWord ..), decodeR2, R2F.func_toWord, R2F.ofWord_toWord]
  rfl

theorem sltuR (f : R2F) : Statement (.sltuR f) := fun _ => by
  refine ⟨_, rfl, ?_⟩
  rw [decode_0x02 (R2F.root_toWord ..), decodeR2, R2F.func_toWord, R2F.ofWord_toWord]
  rfl

theorem sgeu (f : R2F) : Statement (.sgeu f) := fun _ => by
  refine ⟨_, rfl, ?_⟩
  rw [decode_0x02 (R2F.root_toWord ..), decodeR2, R2F.func_toWord, R2F.ofWord_toWord]
  rfl

theorem bmm (f : R2F) : Statement (.bmm f) := fun _ => by
  refine ⟨_, rfl, ?_⟩
  rw [decode_0x02 (R2F.root_toWord ..), decodeR2, R2F.func_toWord, R2F.ofWord_toWord]
  rfl

theorem mxorB (f : R2F) : Statement (.mxorB f) := fun _ => by
  refine ⟨_, rfl, ?_⟩
  rw [decode_0x02 (R2F.root_toWord ..), decodeR2, R2F.func_toWord, R2F.ofWord_toWord]
  rfl

theorem setm (f : SetMaskF) : Statement (.setm f) := fun _ => by
  refine ⟨_, rfl, ?_⟩
  rw [decode_0x02 (SetMaskF.root_toWord ..), decodeR2, SetMaskF.func_toWord, SetMaskF.ofWord_toWord]
  exact vectorOnly_ok (SetMaskF.half_toWord ..)

theorem vsllv (f : R2F) : Statement (.vsllv f) := by
  intro h
  refine ⟨_, rfl, ?_⟩
  rw [decode_0x02 (R2F.root_toWord ..), decodeR2, R2F.func_toWord, R2F.ofWord_toWord]
  exact vectorOnly_ok ((R2F.half_toWord ..).trans h)

theorem vsrlv (f : R2F) : Statement (.vsrlv f) := by
  intro h
  refine ⟨_, rfl, ?_⟩
  rw [decode_0x02 (R2F.root_toWord ..), decodeR2, R2F.func_toWord, R2F.ofWord_toWord]
  exact vectorOnly_ok ((R2F.half_toWord ..).trans h)

theorem vex (f : R2F) : Statement (.vex f) := by
  intro h
  refine ⟨_, rfl, ?_⟩
  rw [decode_0x02 (R2F.root_toWord ..), decodeR2, R2F.func_toWord, R2F.ofWord_toWord]
  exact vectorOnly_ok ((R2F.half_toWord ..).trans h)

theorem veins (f : R2F) : Statement (.veins f) := by
  intro h
  refine ⟨_, rfl, ?_⟩
  rw [decode_0x02 (R2F.root_toWord ..), decodeR2, R2F.func_toWord, R2F.ofWord_toWord]
  exact vectorOnly_ok ((R2F.half_toWord ..).trans h)

theorem rdCoeff (f : R2F) : Statement (.rdCoeff f) := fun _ => by
  refine ⟨_, rfl, ?_⟩
  rw [decode_0x02 (R2F.root_toWord ..), decodeR2, R2F.func_toWord, R2F.ofWord_toWord]
  rfl

theorem wrCoeff (f : R2F) : Statement (.wrCoeff f) := fun _ => by
  refine ⟨_, rfl, ?_⟩
  rw [decode_0x02 (R2F.root_toWord ..), decodeR2, R2F.func_toWord, R2F.ofWord_toWord]
  rfl

theorem mux (f : R2F) : Statement (.mux f) := fun _ => by
  refine ⟨_, rfl, ?_⟩
  rw [decode_0x03 (R2F.root_toWord ..), decodeR3, R2F.func_toWord, R2F.ofWord_toWord]
  rfl

theorem sllp (f : R2F) : Statement (.sllp f) := fun _ => by
  refine ⟨_, rfl, ?_⟩
  rw [decode_0x03 (R2F.root_toWord ..), decodeR3, R2F.func_toWord, R2F.ofWord_toWord]
  rfl

theorem sllpi (f : ShiftF) : Statement (.sllpi f) := fun _ => by
  refine ⟨_, rfl, ?_⟩
  rw [decode_0x03 (ShiftF.root_toWord ..), decodeR3, ShiftF.func_toWord, ShiftF.ofWord_toWord]
  rfl

theorem ptrdif (f : R2F) : Statement (.ptrdif f) := fun _ => by
  refine ⟨_, rfl, ?_⟩
  rw [decode_0x03 (R2F.root_toWord ..), decodeR3, R2F.func_toWord, R2F.ofWord_toWord]
  rfl

theorem chkR (f : ChkRF) : Statement (.chkR f) := fun _ => by
  refine ⟨_, rfl, ?_⟩
  rw [decode_0x03 (ChkRF.root_toWord ..), decodeR3, ChkRF.func_toWord, ChkRF.ofWord_toWord]
  rfl

theorem blend (f : R2F) : Statement (.blend f) := fun _ => by
  refine ⟨_, rfl, ?_⟩
  rw [decode_0x03 (R2F.root_toWord ..), decodeR3, R2F.func_toWord, R2F.ofWord_toWord]
  rfl

theorem addI (f : RIF) : Statement (.addI f) := fun _ => by
  refine ⟨_, rfl, ?_⟩
  rw [decode_0x04 (RIF.root_toWord ..), RIF.ofWord_toWord]

theorem subf (f : RIF) : Statement (.subf f) := fun _ => by
  refine ⟨_, rfl, ?_⟩
  rw [decode_0x05 (RIF.root_toWord ..), RIF.ofWord_toWord]

theorem mulI (f : RIF) : Statement (.mulI f) := fun _ => by
  refine ⟨_, rfl, ?_⟩
  rw [decode_0x06 (RIF.root_toWord ..), RIF.ofWord_toWord]

theorem andI (f : RIF) : Statement (.andI f) := fun _ => by
  refine ⟨_, rfl, ?_⟩
  rw [decode_0x08 (RIF.root_toWord ..), RIF.ofWord_toWord]

theorem orI (f : RIF) : Statement (.orI f) := fun _ => by
  refine ⟨_, rfl, ?_⟩
  rw [decode_0x09 (RIF.root_toWord ..), RIF.ofWord_toWord]

theorem xorI (f : RIF) : Statement (.xorI f) := fun _ => by
  refine ⟨_, rfl, ?_⟩
  rw [decode_0x0a (RIF.root_toWord ..), RIF.ofWord_toWord]

theorem muluI (f : RIF) : Statement (.muluI f) := fun _ => by
  refine ⟨_, rfl, ?_⟩
  rw [decode_0x0e (RIF.root_toWord ..), RIF.ofWord_toWord]

theorem divI (f : RIF) : Statement (.divI f) := fun _ => by
  refine ⟨_, rfl, ?_⟩
  rw [decode_0x10 (RIF.root_toWord ..), RIF.ofWord_toWord]

theorem divuI (f : RIF) : Statement (.divuI f) := fun _ => by
  refine ⟨_, rfl, ?_⟩
  rw [decode_0x11 (RIF.root_toWord ..), RIF.ofWord_toWord]

theorem mulfI (f : RIF) : Statement (.mulfI f) := fun _ => by
  refine ⟨_, rfl, ?_⟩
  rw [decode_0x15 (RIF.root_toWord ..), RIF.ofWord_toWord]

theorem permI (f : RIF) : Statement (.permI f) := fun _ => by
  refine ⟨_, rfl, ?_⟩
  rw [decode_0x17 (RIF.root_toWord ..), RIF.ofWord_toWord]

theorem remI (f : RIF) : Statement (.remI f) := fun _ => by
  refine ⟨_, rfl, ?_⟩
  rw [decode_0x18 (RIF.root_toWord ..), RIF.ofWord_toWord]

theorem remuI (f : RIF) : Statement (.remuI f) := fun _ => by
  refine ⟨_, rfl, ?_⟩
  rw [decode_0x19 (RIF.root_toWord ..), RIF.ofWord_toWord]

theorem wydndxI (f : RIF) : Statement (.wydndxI f) := fun _ => by
  refine ⟨_, rfl, ?_⟩
  rw [decode_0x1b (RIF.root_toWord ..), RIF.ofWord_toWord]

theorem divr (f : RIF) : Statement (.divr f) := fun _ => by
  refine ⟨_, rfl, ?_⟩
  rw [decode_0x21 (RIF.root_toWord ..), RIF.ofWord_toWord]

theorem u21ndxI (f : RIF) : Statement (.u21ndxI f) := fun _ => by
  refine ⟨_, rfl, ?_⟩
  rw [decode_0x23 (RIF.root_toWord ..), RIF.ofWord_toWord]

theorem seqI (f : RIF) : Statement (.seqI f) := fun _ => by
  refine ⟨_, rfl, ?_⟩
  rw [decode_0x26 (RIF.root_toWord ..), RIF.ofWord_toWord]

theorem sneI (f : RIF) : Statement (.sneI f) := fun _ => by
  refine ⟨_, rfl, ?_⟩
  rw [decode_0x27 (RIF.root_toWord ..), RIF.ofWord_toWord]

theorem sltI (f : RIF) : Statement (.sltI f) := fun _ => by
  refine ⟨_, rfl, ?_⟩
  rw [decode_0x28 (RIF.root_toWord ..), RIF.ofWord_toWord]

theorem sgtI (f : RIF) : Statement (.sgtI f) := fun _ => by
  refine ⟨_, rfl, ?_⟩
  rw [decode_0x29 (RIF.root_toWord ..), RIF.ofWord_toWord]

theorem sltuI (f : RIF) : Statement (.sltuI f) := fun _ => by
  refine ⟨_, rfl, ?_⟩
  rw [decode_0x2a (RIF.root_toWord ..), RIF.ofWord_toWord]

theorem sgtuI (f : RIF) : Statement (.sgtuI f) := fun _ => by
  refine ⟨_, rfl, ?_⟩
  rw [decode_0x2b (RIF.root_toWord ..), RIF.ofWord_toWord]

theorem chkI (f : ChkIF) : Statement (.chkI f) := fun _ => by
  refine ⟨_, rfl, ?_⟩
  rw [decode_0x22 (ChkIF.root_toWord ..), ChkIF.ofWord_toWord]

theorem csrx (op2 : BitVec 2) (f : CsrF) : Statement (.csrx op2 f) := fun h => nomatch h

theorem csrr (f : CsrF) : Statement (.csrr f) := fun _ => by
  refine ⟨_, rfl, ?_⟩
  rw [decode_0x0f (CsrF.root_toWord ..), scalarHalf_eq (CsrF.half_toWord ..), decodeCsr, CsrF.op2_toWord, CsrF.ofWord_toWord]
  rfl

theorem csrw (f : CsrF) : Statement (.csrw f) := fun _ => by
  refine ⟨_, rfl, ?_⟩
  rw [decode_0x0f (CsrF.root_toWord ..), scalarHalf_eq (CsrF.half_toWord ..), decodeCsr, CsrF.op2_toWord, CsrF.ofWord_toWord]
  rfl

theorem csrs (f : CsrF) : Statement (.csrs f) := fun _ => by
  refine ⟨_, rfl, ?_⟩
  rw [decode_0x0f (CsrF.root_toWord ..), scalarHalf_eq (CsrF.half_toWord ..), decodeCsr, CsrF.op2_toWord, CsrF.ofWord_toWord]
  rfl

theorem csrc (f : CsrF) : Statement (.csrc f) := fun _ => by
  refine ⟨_, rfl, ?_⟩
  rw [decode_0x0f (CsrF.root_toWord ..), scalarHalf_eq (CsrF.half_toWord ..), decodeCsr, CsrF.op2_toWord, CsrF.ofWord_toWord]
  rfl

theorem bytndxR (f : BytRF) : Statement (.bytndxR f) := fun _ => by
  refine ⟨_, rfl, ?_⟩
  rw [decode_0x1a (BytRF.root_toWord ..), decodeBytndx, BytRF.func_toWord, BytRF.ofWord_toWord]
  rfl

theorem bytndxI (f : BytIF) : Statement (.bytndxI f) := fun _ => by
  refine ⟨_, rfl, ?_⟩
  rw [decode_0x1a (BytIF.root_toWord ..), decodeBytndx, BytIF.func_toWord, BytIF.ofWord_toWord]
  rfl

theorem dep (f : R2F) : Statement (.dep f) := fun _ => by
  refine ⟨_, rfl, ?_⟩
  rw [decode_0x1c (R2F.root_toWord ..), decodeBitField, R2F.func_toWord, R2F.ofWord_toWord]
  rfl

theorem ext (f : R2F) : Statement (.ext f) := fun _ => by
  refine ⟨_, rfl, ?_⟩
  rw [decode_0x1c (R2F.root_toWord ..), decodeBitField, R2F.func_toWord, R2F.ofWord_toWord]
  rfl

theorem extu (f : R2F) : Statement (.extu f) := fun _ => by
  refine ⟨_, rfl, ?_⟩
  rw [decode_0x1c (R2F.root_toWord ..), decodeBitField, R2F.func_toWord, R2F.ofWord_toWord]
  rfl

theorem ffo (f : R2F) : Statement (.ffo f) := fun _ => by
  refine ⟨_, rfl, ?_⟩
  rw [decode_0x1c (R2F.root_toWord ..), decodeBitField, R2F.func_toWord, R2F.ofWord_toWord]
  rfl

theorem dfabs (f : R1F) : Statement (.dfabs f) := fun _ => by
  refine ⟨_, rfl, ?_⟩
  rw [decode_0x30 (R1F.root_toWord ..), decodeDF1, R1F.func_toWord, R1F.ofWord_toWord]
  rfl

theorem fmov (f : R1F) : Statement (.fmov f) := fun _ => by
  refine ⟨_, rfl, ?_⟩
  rw [decode_0x34 (R1F.root_toWord ..), decodeF1, R1F.func_toWord, R1F.ofWord_toWord]
  rfl

theorem fsqrt (f : R1F) : Statement (.fsqrt f) := fun _ => by
  refine ⟨_, rfl, ?_⟩
  rw [decode_0x34 (R1F.root_toWord ..), decodeF1, R1F.func_toWord, R1F.ofWord_toWord]
  rfl

theorem fabs (f : R1F) : Statement (.fabs f) := fun _ => by
  refine ⟨_, rfl, ?_⟩
  rw [decode_0x34 (R1F.root_toWord ..), decodeF1, R1F.func_toWord, R1F.ofWord_toWord]
  rfl

theorem fnabs (f : R1F) : Statement (.fnabs f) := fun _ => by
  refine ⟨_, rfl, ?_⟩
  rw [decode_0x34 (R1F.root_toWord ..), decodeF1, R1F.func_toWord, R1F.ofWord_toWord]
  rfl

theorem fneg (f : R1F) : Statement (.fneg f) := fun _ => by
  refine ⟨_, rfl, ?_⟩
  rw [decode_0x34 (R1F.root_toWord ..), decodeF1, R1F.func_toWord, R1F.ofWord_toWord]
  rfl

theorem fmin (f : R2F) : Statement (.fmin f) := fun _ => by
  refine ⟨_, rfl, ?_⟩
  rw [decode_0x35 (R2F.root_toWord ..), decodeF2, R2F.func_toWord, R2F.ofWord_toWord]
  rfl

theorem fmax (f : R2F) : Statement (.fmax f) := fun _ => by
  refine ⟨_, rfl, ?_⟩
  rw [decode_0x35 (R2F.root_toWord ..), decodeF2, R2F.func_toWord, R2F.ofWord_toWord]
  rfl

theorem fadd (f : R2F) : Statement (.fadd f) := fun _ => by
  refine ⟨_, rfl, ?_⟩
  rw [decode_0x35 (R2F.root_toWord ..), decodeF2, R2F.func_toWord, R2F.ofWord_toWord]
  rfl

theorem fsub (f : R2F) : Statement (.fsub f) := fun _ => by
  refine ⟨_, rfl, ?_⟩
  rw [decode_0x35 (R2F.root_toWord ..), decodeF2, R2F.func_toWord, R2F.ofWord_toWord]
  rfl

theorem fmul (f : R2F) : Statement (.fmul f) := fun _ => by
  refine ⟨_, rfl, ?_⟩
  rw [decode_0x35 (R2F.root_toWord ..), decodeF2, R2F.func_toWord, R2F.ofWord_toWord]
  rfl

theorem fdiv (f : R2F) : Statement (.fdiv f) := fun _ => by
  refine ⟨_, rfl, ?_⟩
  rw [decode_0x35 (R2F.root_toWord ..), decodeF2, R2F.func_toWord, R2F.ofWord_toWord]
  rfl

theorem fcmp (f : R2F) : Statement (.fcmp f) := fun _ => by
  refine ⟨_, rfl, ?_⟩
  rw [decode_0x35 (R2F.root_toWord ..), decodeF2, R2F.func_toWord, R2F.ofWord_toWord]
  rfl

theorem fseq (f : R2F) : Statement (.fseq f) := fun _ => by
  refine ⟨_, rfl, ?_⟩
  rw [decode_0x35 (R2F.root_toWord ..), decodeF2, R2F.func_toWord, R2F.ofWord_toWord]
  rfl

theorem fslt (f : R2F) : Statement (.fslt f) := fun _ => by
  refine ⟨_, rfl, ?_⟩
  rw [decode_0x35 (R2F.root_toWord ..), decodeF2, R2F.func_toWord, R2F.ofWord_toWord]
  rfl

theorem fsle (f : R2F) : Statement (.fsle f) := fun _ => by
  refine ⟨_, rfl, ?_⟩
  rw [decode_0x35 (R2F.root_toWord ..), decodeF2, R2F.func_toWord, R2F.ofWord_toWord]
  rfl

theorem fsne (f : R2F) : Statement (.fsne f) := fun _ => by
  refine ⟨_, rfl, ?_⟩
  rw [decode_0x35 (R2F.root_toWord ..), decodeF2, R2F.func_toWord, R2F.ofWord_toWord]
  rfl

theorem fcmpb (f : R2F) : Statement (.fcmpb f) := fun _ => by
  refine ⟨_, rfl, ?_⟩
  rw [decode_0x35 (R2F.root_toWord ..), decodeF2, R2F.func_toWord, R2F.ofWord_toWord]
  rfl

theorem fsetm (f : SetMaskF) : Statement (.fsetm f) := fun _ => by
  refine ⟨_, rfl, ?_⟩
  rw [decode_0x35 (SetMaskF.root_toWord ..), decodeF2, SetMaskF.func_toWord, SetMaskF.ofWord_toWord]
  exact vectorOnly_ok (SetMaskF.half_toWord ..)

theorem fdp (f : R2F) : Statement (.fdp f) := fun _ => by
  refine ⟨_, rfl, ?_⟩
  rw [decode_0x37 (R2F.root_toWord ..), decodeF4, R2F.func_toWord, R2F.ofWord_toWord]
  rfl

theorem mand (f : Vm3F) : Statement (.mand f) := fun _ => by
  refine ⟨_, rfl, ?_⟩
  rw [decode_0x3e (Vm3F.root_toWord ..), scalarHalf_eq (Vm3F.half_toWord ..), decodeVM, Vm3F.func_toWord, Vm3F.ofWord_toWord]
  rfl

theorem morM (f : Vm3F) : Statement (.morM f) := fun _ => by
  refine ⟨_, rfl, ?_⟩
  rw [decode_0x3e (Vm3F.root_toWord ..), scalarHalf_eq (Vm3F.half_toWord ..), decodeVM, Vm3F.func_toWord, Vm3F.ofWord_toWord]
  rfl

theorem mxorM (f : Vm3F) : Statement (.mxorM f) := fun _ => by
  refine ⟨_, rfl, ?_⟩
  rw [decode_0x3e (Vm3F.root_toWord ..), scalarHalf_eq (Vm3F.half_toWord ..), decodeVM, Vm3F.func_toWord, Vm3F.ofWord_toWord]
  rfl

theorem madd (f : Vm3F) : Statement (.madd f) := fun _ => by
  refine ⟨_, rfl, ?_⟩
  rw [decode_0x3e (Vm3F.root_toWord ..), scalarHalf_eq (Vm3F.half_toWord ..), decodeVM, Vm3F.func_toWord, Vm3F.ofWord_toWord]
  rfl

theorem msub (f : Vm3F) : Statement (.msub f) := fun _ => by
  refine ⟨_, rfl, ?_⟩
  rw [decode_0x3e (Vm3F.root_toWord ..), scalarHalf_eq (Vm3F.half_toWord ..), decodeVM, Vm3F.func_toWord, Vm3F.ofWord_toWord]
  rfl

theorem msll (f : VmShiftF) : Statement (.msll f) := fun _ => by
  refine ⟨_, rfl, ?_⟩
  rw [decode_0x3e (VmShiftF.root_toWord ..), scalarHalf_eq (VmShiftF.half_toWord ..), decodeVM, VmShiftF.func_toWord, VmShiftF.ofWord_toWord]
  rfl

theorem msrl (f : VmShiftF) : Statement (.msrl f) := fun _ => by
  refine ⟨_, rfl, ?_⟩
  rw [decode_0x3e (VmShiftF.root_toWord ..), scalarHalf_eq (VmShiftF.half_toWord ..), decodeVM, VmShiftF.func_toWord, VmShiftF.ofWord_toWord]
  rfl

theorem mnand (f : Vm3F) : Statement (.mnand f) := fun _ => by
  refine ⟨_, rfl, ?_⟩
  rw [decode_0x3e (Vm3F.root_toWord ..), scalarHalf_eq (Vm3F.half_toWord ..), decodeVM, Vm3F.func_toWord, Vm3F.ofWord_toWord]
  rfl

theorem mnor (f : Vm3F) : Statement (.mnor f) := fun _ => by
  refine ⟨_, rfl, ?_⟩
  rw [decode_0x3e (Vm3F.root_toWord ..), scalarHalf_eq (Vm3F.half_toWord ..), decodeVM, Vm3F.func_toWord, Vm3F.ofWord_toWord]
  rfl

theorem mxnor (f : Vm3F) : Statement (.mxnor f) := fun _ => by
  refine ⟨_, rfl, ?_⟩
  rw [decode_0x3e (Vm3F.root_toWord ..), scalarHalf_eq (Vm3F.half_toWord ..), decodeVM, Vm3F.func_toWord, Vm3F.ofWord_toWord]
  rfl

theorem mfill (f : VmPutF) : Statement (.mfill f) := fun _ => by
  refine ⟨_, rfl, ?_⟩
  rw [decode_0x3e (VmPutF.root_toWord ..), scalarHalf_eq (VmPutF.half_toWord ..), decodeVM, VmPutF.func_toWord, VmPutF.ofWord_toWord]
  rfl

theorem mpop (f : VmGetF) : Statement (.mpop f) := fun _ => by
  refine ⟨_, rfl, ?_⟩
  rw [decode_0x3e (VmGetF.root_toWord ..), scalarHalf_eq (VmGetF.half_toWord ..), decodeVM, VmGetF.func_toWord, VmGetF.ofWord_toWord]
  rfl

theorem mfirst (f : VmGetF) : Statement (.mfirst f) := fun _ => by
  refine ⟨_, rfl, ?_⟩
  rw [decode_0x3e (VmGetF.root_toWord ..), scalarHalf_eq (VmGetF.half_toWord ..), decodeVM, VmGetF.func_toWord, VmGetF.ofWord_toWord]
  rfl

theorem mlast (f : VmGetF) : Statement (.mlast f) := fun _ => by
  refine ⟨_, rfl, ?_⟩
  rw [decode_0x3e (VmGetF.root_toWord ..), scalarHalf_eq (VmGetF.half_toWord ..), decodeVM, VmGetF.func_toWord, VmGetF.ofWord_toWord]
  rfl

theorem mtm (f : VmPutF) : Statement (.mtm f) := fun _ => by
  refine ⟨_, rfl, ?_⟩
  rw [decode_0x3e (VmPutF.root_toWord ..), scalarHalf_eq (VmPutF.half_toWord ..), decodeVM, VmPutF.func_toWord, VmPutF.ofWord_toWord]
  rfl

theorem mfm (f : VmGetF) : Statement (.mfm f) := fun _ => by
  refine ⟨_, rfl, ?_⟩
  rw [decode_0x3e (VmGetF.root_toWord ..), scalarHalf_eq (VmGetF.half_toWord ..), decodeVM, VmGetF.func_toWord, VmGetF.ofWord_toWord]
  rfl

theorem mtvl (f : VlPutF) : Statement (.mtvl f) := fun _ => by
  refine ⟨_, rfl, ?_⟩
  rw [decode_0x3e (VlPutF.root_toWord ..), scalarHalf_eq (VlPutF.half_toWord ..), decodeVM, VlPutF.func_toWord, VlPutF.ofWord_toWord]
  rfl

theorem mfvl (f : VlGetF) : Statement (.mfvl f) := fun _ => by
  refine ⟨_, rfl, ?_⟩
  rw [decode_0x3e (VlGetF.root_toWord ..), scalarHalf_eq (VlGetF.half_toWord ..), decodeVM, VlGetF.func_toWord, VlGetF.ofWord_toWord]
  rfl

theorem cntlzM (f : VmGetF) : Statement (.cntlzM f) := fun h => nomatch h

theorem nop (v : Bool) : Statement (.nop v) := fun _ => by
  refine ⟨_, rfl, ?_⟩
  rw [decode_0x3f (plainWord_root ..), plainWord_half]

theorem blt (f : BrF) : Statement (.blt f) := fun _ => by
  refine ⟨_, rfl, ?_⟩
  rw [decode_0x48 (BrF.root_toWord ..), branchOr_ok (BrF.half_toWord ..), BrF.ofWord_toWord]

theorem bge (f : BrF) : Statement (.bge f) := fun _ => by
  refine ⟨_, rfl, ?_⟩
  rw [decode_0x49 (BrF.root_toWord ..), branchOr_ok (BrF.half_toWord ..), BrF.ofWord_toWord]

theorem bltu (f : BrF) : Statement (.bltu f) := fun _ => by
  refine ⟨_, rfl, ?_⟩
  rw [decode_0x4a (BrF.root_toWord ..), branchOr_ok (BrF.half_toWord ..), BrF.ofWord_toWord]

theorem bgeu (f : BrF) : Statement (.bgeu f) := fun _ => by
  refine ⟨_, rfl, ?_⟩
  rw [decode_0x4b (BrF.root_toWord ..), branchOr_ok (BrF.half_toWord ..), BrF.ofWord_toWord]

theorem bbs (f : BrF) : Statement (.bbs f) := fun _ => by
  refine ⟨_, rfl, ?_⟩
  rw [decode_0x4d (BrF.root_toWord ..), branchOr_ok (BrF.half_toWord ..), BrF.ofWord_toWord]

theorem beq (f : BrF) : Statement (.beq f) := fun _ => by
  refine ⟨_, rfl, ?_⟩
  rw [decode_0x4e (BrF.root_toWord ..), branchOr_ok (BrF.half_toWord ..), BrF.ofWord_toWord]

theorem bne (f : BrF) : Statement (.bne f) := fun _ => by
  refine ⟨_, rfl, ?_⟩
  rw [decode_0x4f (BrF.root_toWord ..), branchOr_ok (BrF.half_toWord ..), BrF.ofWord_toWord]

theorem vectorBranch (sel : BitVec 3) : Statement (.vectorBranch sel) := by
  intro _
  refine ⟨_, rfl, ?_⟩
  revert sel
  decide

theorem exi0 (payload : BitVec 28) : Statement (.exi0 payload) := fun _ => by
  refine ⟨_, rfl, ?_⟩
  rw [decode_0x50 (exiWord_root ..), scalarOnly_ok (exiWord_half ..), exiWord_payload]

theorem exi1 (payload : BitVec 28) : Statement (.exi1 payload) := fun _ => by
  refine ⟨_, rfl, ?_⟩
  rw [decode_0x51 (exiWord_root ..), scalarOnly_ok (exiWord_half ..), exiWord_payload]

theorem exi2 (payload : BitVec 28) : Statement (.exi2 payload) := fun _ => by
  refine ⟨_, rfl, ?_⟩
  rw [decode_0x52 (exiWord_root ..), scalarOnly_ok (exiWord_half ..), exiWord_payload]

theorem imod (f : ImodF) : Statement (.imod f) := fun _ => by
  refine ⟨_, rfl, ?_⟩
  rw [decode_0x58 (ImodF.root_toWord ..), halfOr_ok (ImodF.half_toWord ..), ImodF.ofWord_toWord]

theorem btfld (f : ImodF) : Statement (.btfld f) := fun _ => by
  refine ⟨_, rfl, ?_⟩
  rw [decode_0x59 (ImodF.root_toWord ..), halfOr_ok (ImodF.half_toWord ..), ImodF.ofWord_toWord]

theorem brmod (f : BrmodF) : Statement (.brmod f) := fun _ => by
  refine ⟨_, rfl, ?_⟩
  rw [decode_0x5a (BrmodF.root_toWord ..), halfOr_ok (BrmodF.half_toWord ..), BrmodF.ofWord_toWord]

theorem stride (f : StrideF) : Statement (.stride f) := fun _ => by
  refine ⟨_, rfl, ?_⟩
  rw [decode_0x5c (StrideF.root_toWord ..), halfOr_ok (StrideF.half_toWord ..), StrideF.ofWord_toWord]

theorem ldx (func4 : BitVec 4) (f : LdF) : Statement (.ldx func4 f) := by
  intro h
  refine ⟨_, rfl, ?_⟩
  rw [decode_0x60 (LdF.root_toWord ..), scalarHalf_eq (LdF.half_toWord ..), decodeLoad, LdF.func_toWord, LdF.ofWord_toWord]
  simp only [Instr.wellFormed] at h
  split <;> first | rfl | exact absurd h (by decide)

theorem ldxZ (func4 : BitVec 4) (f : LdF) : Statement (.ldxZ func4 f) := by
  intro h
  refine ⟨_, rfl, ?_⟩
  rw [decode_0x64 (LdF.root_toWord ..), scalarHalf_eq (LdF.half_toWord ..), decodeLoadZ, LdF.func_toWord, LdF.ofWord_toWord]
  simp only [Instr.wellFormed] at h
  split <;> first | rfl | exact absurd h (by decide)

theorem ldxX (func4 : BitVec 4) (f : LdxF) : Statement (.ldxX func4 f) := by
  intro h
  refine ⟨_, rfl, ?_⟩
  rw [decode_0x61 (LdxF.root_toWord ..), scalarHalf_eq (LdxF.half_toWord ..), decodeLoadX, LdxF.func_toWord, LdxF.ofWord_toWord]
  simp only [Instr.wellFormed] at h
  split <;> first | rfl | exact absurd h (by decide)

theorem ldxXZ (func4 : BitVec 4) (f : LdxF) : Statement (.ldxXZ func4 f) := by
  intro h
  refine ⟨_, rfl, ?_⟩
  rw [decode_0x65 (LdxF.root_toWord ..), scalarHalf_eq (LdxF.half_toWord ..), decodeLoadXZ, LdxF.func_toWord, LdxF.ofWord_toWord]
  simp only [Instr.wellFormed] at h
  split <;> first | rfl | exact absurd h (by decide)

theorem ldb (f : LdF) : Statement (.ldb f) := fun _ => by
  refine ⟨_, rfl, ?_⟩
  rw [decode_0x60 (LdF.root_toWord ..), scalarHalf_eq (LdF.half_toWord ..), decodeLoad, LdF.func_toWord, LdF.ofWord_toWord]
  rfl

theorem ldbx (f : LdxF) : Statement (.ldbx f) := fun _ => by
  refine ⟨_, rfl, ?_⟩
  rw [decode_0x61 (LdxF.root_toWord ..), scalarHalf_eq (LdxF.half_toWord ..), decodeLoadX, LdxF.func_toWord, LdxF.ofWord_toWord]
  rfl

theorem ldbz (f : LdF) : Statement (.ldbz f) := fun _ => by
  refine ⟨_, rfl, ?_⟩
  rw [decode_0x64 (LdF.root_toWord ..), scalarHalf_eq (LdF.half_toWord ..), decodeLoadZ, LdF.func_toWord, LdF.ofWord_toWord]
  rfl

theorem ldbxz (f : LdxF) : Statement (.ldbxz f) := fun _ => by
  refine ⟨_, rfl, ?_⟩
  rw [decode_0x65 (LdxF.root_toWord ..), scalarHalf_eq (LdxF.half_toWord ..), decodeLoadXZ, LdxF.func_toWord, LdxF.ofWord_toWord]
  rfl

theorem ldw (f : LdF) : Statement (.ldw f) := fun _ => by
  refine ⟨_, rfl, ?_⟩
  rw [decode_0x60 (LdF.root_toWord ..), scalarHalf_eq (LdF.half_toWord ..), decodeLoad, LdF.func_toWord, LdF.ofWord_toWord]
  rfl

theorem ldwx (f : LdxF) : Statement (.ldwx f) := fun _ => by
  refine ⟨_, rfl, ?_⟩
  rw [decode_0x61 (LdxF.root_toWord ..), scalarHalf_eq (LdxF.half_toWord ..), decodeLoadX, LdxF.func_toWord, LdxF.ofWord_toWord]
  rfl

theorem ldwz (f : LdF) : Statement (.ldwz f) := fun _ => by
  refine ⟨_, rfl, ?_⟩
  rw [decode_0x64 (LdF.root_toWord ..), scalarHalf_eq (LdF.half_toWord ..), decodeLoadZ, LdF.func_toWord, LdF.ofWord_toWord]
  rfl

theorem ldwxz (f : LdxF) : Statement (.ldwxz f) := fun _ => by
  refine ⟨_, rfl, ?_⟩
  rw [decode_0x65 (LdxF.root_toWord ..), scalarHalf_eq (LdxF.half_toWord ..), decodeLoadXZ, LdxF.func_toWord, LdxF.ofWord_toWord]
  rfl

theorem ldt (f : LdF) : Statement (.ldt f) := fun _ => by
  refine ⟨_, rfl, ?_⟩
  rw [decode_0x60 (LdF.root_toWord ..), scalarHalf_eq (LdF.half_toWord ..), decodeLoad, LdF.func_toWord, LdF.ofWord_toWord]
  rfl

theorem ldtx (f : LdxF) : Statement (.ldtx f) := fun _ => by
  refine ⟨_, rfl, ?_⟩
  rw [decode_0x61 (LdxF.root_toWord ..), scalarHalf_eq (LdxF.half_toWord ..), decodeLoadX, LdxF.func_toWord, LdxF.ofWord_toWord]
  rfl

theorem ldtz (f : LdF) : Statement (.ldtz f) := fun _ => by
  refine ⟨_, rfl, ?_⟩
  rw [decode_0x64 (LdF.root_toWord ..), scalarHalf_eq (LdF.half_toWord ..), decodeLoadZ, LdF.func_toWord, LdF.ofWord_toWord]
  rfl

theorem ldtxz (f : LdxF) : Statement (.ldtxz f) := fun _ => by
  refine ⟨_, rfl, ?_⟩
  rw [decode_0x65 (LdxF.root_toWord ..), scalarHalf_eq (LdxF.half_toWord ..), decodeLoadXZ, LdxF.func_toWord, LdxF.ofWord_toWord]
  rfl

theorem ldo (f : LdF) : Statement (.ldo f) := fun _ => by
  refine ⟨_, rfl, ?_⟩
  rw [decode_0x60 (LdF.root_toWord ..), scalarHalf_eq (LdF.half_toWord ..), decodeLoad, LdF.func_toWord, LdF.ofWord_toWord]
  rfl

theorem ldox (f : LdxF) : Statement (.ldox f) := fun _ => by
  refine ⟨_, rfl, ?_⟩
  rw [decode_0x61 (LdxF.root_toWord ..), scalarHalf_eq (LdxF.half_toWord ..), decodeLoadX, LdxF.func_toWord, LdxF.ofWord_toWord]
  rfl

theorem ldoz (f : LdF) : Statement (.ldoz f) := fun _ => by
  refine ⟨_, rfl, ?_⟩
  rw [decode_0x64 (LdF.root_toWord ..), scalarHalf_eq (LdF.half_toWord ..), decodeLoadZ, LdF.func_toWord, LdF.ofWord_toWord]
  rfl

theorem ldoxz (f : LdxF) : Statement (.ldoxz f) := fun _ => by
  refine ⟨_, rfl, ?_⟩
  rw [decode_0x65 (LdxF.root_toWord ..), scalarHalf_eq (LdxF.half_toWord ..), decodeLoadXZ, LdxF.func_toWord, LdxF.ofWord_toWord]
  rfl

theorem cache (f : CacheF) : Statement (.cache f) := fun _ => by
  refine ⟨_, rfl, ?_⟩
  rw [decode_0x60 (CacheF.root_toWord ..), scalarHalf_eq (CacheF.half_toWord ..), decodeLoad, CacheF.func_toWord, CacheF.ofWord_toWord]
  rfl

theorem lea (f : LeaF) : Statement (.lea f) := fun h => nomatch h

theorem leaV (f : LeaVF) : Statement (.leaV f) := fun h => nomatch h

theorem stx (func4 : BitVec 4) (f : StF) : Statement (.stx func4 f) := by
  intro h
  refine ⟨_, rfl, ?_⟩
  rw [decode_0x70 (StF.root_toWord ..), scalarHalf_eq (StF.half_toWord ..), decodeStore, StF.func_toWord, StF.ofWord_toWord]
  simp only [Instr.wellFormed] at h
  split <;> first | rfl | exact absurd h (by decide)

theorem stxX (func4 : BitVec 4) (f : StxF) : Statement (.stxX func4 f) := by
  intro h
  refine ⟨_, rfl, ?_⟩
  rw [decode_0x71 (StxF.root_toWord ..), scalarHalf_eq (StxF.half_toWord ..), decodeStoreX, StxF.func_toWord, StxF.ofWord_toWord]
  simp only [Instr.wellFormed] at h
  split <;> first | rfl | exact absurd h (by decide)

theorem stb (f : StF) : Statement (.stb f) := fun _ => by
  refine ⟨_, rfl, ?_⟩
  rw [decode_0x70 (StF.root_toWord ..), scalarHalf_eq (StF.half_toWord ..), decodeStore, StF.func_toWord, StF.ofWord_toWord]
  rfl

theorem stbx (f : StxF) : Statement (.stbx f) := fun _ => by
  refine ⟨_, rfl, ?_⟩
  rw [decode_0x71 (StxF.root_toWord ..), scalarHalf_eq (StxF.half_toWord ..), decodeStoreX, StxF.func_toWord, StxF.ofWord_toWord]
  rfl

theorem stw (f : StF) : Statement (.stw f) := fun _ => by
  refine ⟨_, rfl, ?_⟩
  rw [decode_0x70 (StF.root_toWord ..), scalarHalf_eq (StF.half_toWord ..), decodeStore, StF.func_toWord, StF.ofWord_toWord]
  rfl

theorem stwx (f : StxF) : Statement (.stwx f) := fun _ => by
  refine ⟨_, rfl, ?_⟩
  rw [decode_0x71 (StxF.root_toWord ..), scalarHalf_eq (StxF.half_toWord ..), decodeStoreX, StxF.func_toWord, StxF.ofWord_toWord]
  rfl

theorem stt (f : StF) : Statement (.stt f) := fun _ => by
  refine ⟨_, rfl, ?_⟩
  rw [decode_0x70 (StF.root_toWord ..), scalarHalf_eq (StF.half_toWord ..), decodeStore, StF.func_toWord, StF.ofWord_toWord]
  rfl

theorem sttx (f : StxF) : Statement (.sttx f) := fun _ => by
  refine ⟨_, rfl, ?_⟩
  rw [decode_0x71 (StxF.root_toWord ..), scalarHalf_eq (StxF.half_toWord ..), decodeStoreX, StxF.func_toWord, StxF.ofWord_toWord]
  rfl

theorem sto (f : StF) : Statement (.sto f) := fun _ => by
  refine ⟨_, rfl, ?_⟩
  rw [decode_0x70 (StF.root_toWord ..), scalarHalf_eq (StF.half_toWord ..), decodeStore, StF.func_toWord, StF.ofWord_toWord]
  rfl

theorem stox (f : StxF) : Statement (.stox f) := fun _ => by
  refine ⟨_, rfl, ?_⟩
  rw [decode_0x71 (StxF.root_toWord ..), scalarHalf_eq (StxF.half_toWord ..), decodeStoreX, StxF.func_toWord, StxF.ofWord_toWord]
  rfl

theorem stptr (f : StF) : Statement (.stptr f) := fun _ => by
  refine ⟨_, rfl, ?_⟩
  rw [decode_0x70 (StF.root_toWord ..), scalarHalf_eq (StF.half_toWord ..), decodeStore, StF.func_toWord, StF.ofWord_toWord]
  rfl

theorem stptrx (f : StxF) : Statement (.stptrx f) := fun _ => by
  refine ⟨_, rfl, ?_⟩
  rw [decode_0x71 (StxF.root_toWord ..), scalarHalf_eq (StxF.half_toWord ..), decodeStoreX, StxF.func_toWord, StxF.ofWord_toWord]
  rfl

theorem stbz (f : StF) : Statement (.stbz f) := fun h => nomatch h

theorem stwz (f : StF) : Statement (.stwz f) := fun h => nomatch h

theorem sttz (f : StF) : Statement (.sttz f) := fun h => nomatch h

theorem stoz (f : StF) : Statement (.stoz f) := fun h => nomatch h

theorem jal (c26 : BitVec 26) (rt2 : BitVec 2) : Statement (.jal c26 rt2) := by
  intro h
  refine ⟨_, rfl, ?_⟩
  rw [decode_0x78 (jalWord_root ..), scalarHalf_eq (jalWord_half ..), decodeJal, jalWord_link, jalWord_target]
  simp only [Instr.wellFormed] at h
  split <;> first | rfl | exact absurd h (by decide)

theorem jmp (c26 : BitVec 26) : Statement (.jmp c26) := fun _ => by
  refine ⟨_, rfl, ?_⟩
  rw [decode_0x78 (jalWord_root ..), scalarHalf_eq (jalWord_half ..), decodeJal, jalWord_link, jalWord_target]
  rfl

theorem bal (c26 : BitVec 26) (rt2 : BitVec 2) : Statement (.bal c26 rt2) := by
  intro h
  refine ⟨_, rfl, ?_⟩
  rw [decode_0x79 (jalWord_root ..), scalarHalf_eq (jalWord_half ..), decodeBal, jalWord_link, jalWord_target]
  simp only [Instr.wellFormed] at h
  split <;> first | rfl | exact absurd h (by decide)

theorem bra (c26 : BitVec 26) : Statement (.bra c26) := fun _ => by
  refine ⟨_, rfl, ?_⟩
  rw [decode_0x79 (jalWord_root ..), scalarHalf_eq (jalWord_half ..), decodeBal, jalWord_link, jalWord_target]
  rfl

theorem bsr (c26 : BitVec 26) : Statement (.bsr c26) := fun _ => by
  refine ⟨_, rfl, ?_⟩
  rw [decode_0x79 (jalWord_root ..), scalarHalf_eq (jalWord_half ..), decodeBal, jalWord_link, jalWord_target]
  rfl

theorem jalr (f : JalrF) : Statement (.jalr f) := by
  intro h
  refine ⟨_, rfl, ?_⟩
  rw [Instr.wellFormed, Bool.not_eq_true'] at h
  rw [decode_0x7a (JalrF.root_toWord ..), scalarHalf_eq (JalrF.half_toWord ..), decodeJalr, JalrF.ofWord_toWord, h]
  rfl

theorem push (f : SysF) : Statement (.push f) := fun _ => by
  refine ⟨_, rfl, ?_⟩
  rw [decode_0x07 (SysF.root_toWord ..), scalarHalf_eq (SysF.half_toWord ..), decodeSys, SysF.func_toWord, SysF.ofWord_toWord]
  rfl

theorem pop (f : SysF) : Statement (.pop f) := fun _ => by
  refine ⟨_, rfl, ?_⟩
  rw [decode_0x07 (SysF.root_toWord ..), scalarHalf_eq (SysF.half_toWord ..), decodeSys, SysF.func_toWord, SysF.ofWord_toWord]
  rfl

theorem peek (f : SysF) : Statement (.peek f) := fun _ => by
  refine ⟨_, rfl, ?_⟩
  rw [decode_0x07 (SysF.root_toWord ..), scalarHalf_eq (SysF.half_toWord ..), decodeSys, SysF.func_toWord, SysF.ofWord_toWord]
  rfl

theorem stat (f : SysF) : Statement (.stat f) := fun _ => by
  refine ⟨_, rfl, ?_⟩
  rw [decode_0x07 (SysF.root_toWord ..), scalarHalf_eq (SysF.half_toWord ..), decodeSys, SysF.func_toWord, SysF.ofWord_toWord]
  rfl

theorem pushi (f : SysF) : Statement (.pushi f) := fun _ => by
  refine ⟨_, rfl, ?_⟩
  rw [decode_0x07 (SysF.root_toWord ..), scalarHalf_eq (SysF.half_toWord ..), decodeSys, SysF.func_toWord, SysF.ofWord_toWord]
  rfl

theorem popi (f : SysF) : Statement (.popi f) := fun _ => by
  refine ⟨_, rfl, ?_⟩
  rw [decode_0x07 (SysF.root_toWord ..), scalarHalf_eq (SysF.half_toWord ..), decodeSys, SysF.func_toWord, SysF.ofWord_toWord]
  rfl

theorem peeki (f : SysF) : Statement (.peeki f) := fun _ => by
  refine ⟨_, rfl, ?_⟩
  rw [decode_0x07 (SysF.root_toWord ..), scalarHalf_eq (SysF.half_toWord ..), decodeSys, SysF.func_toWord, SysF.ofWord_toWord]
  rfl

theorem stati (f : SysF) : Statement (.stati f) := fun _ => by
  refine ⟨_, rfl, ?_⟩
  rw [decode_0x07 (SysF.root_toWord ..), scalarHalf_eq (SysF.half_toWord ..), decodeSys, SysF.func_toWord, SysF.ofWord_toWord]
  rfl

theorem rex (f : SysF) : Statement (.rex f) := fun _ => by
  refine ⟨_, rfl, ?_⟩
  rw [decode_0x07 (SysF.root_toWord ..), scalarHalf_eq (SysF.half_toWord ..), decodeSys, SysF.func_toWord, SysF.ofWord_toWord]
  rfl

theorem rte (f : SysF) : Statement (.rte f) := fun _ => by
  refine ⟨_, rfl, ?_⟩
  rw [decode_0x07 (SysF.root_toWord ..), scalarHalf_eq (SysF.half_toWord ..), decodeSys, SysF.func_toWord, SysF.ofWord_toWord]
  rfl

theorem tlbrw (f : SysF) : Statement (.tlbrw f) := fun _ => by
  refine ⟨_, rfl, ?_⟩
  rw [decode_0x07 (SysF.root_toWord ..), scalarHalf_eq (SysF.half_toWord ..), decodeSys, SysF.func_toWord, SysF.ofWord_toWord]
  rfl

theorem sysOther (func7 : BitVec 7) (f : SysF) : Statement (.sysOther func7 f) := by
  intro h
  refine ⟨_, rfl, ?_⟩
  rw [decode_0x07 (SysF.root_toWord ..), scalarHalf_eq (SysF.half_toWord ..), decodeSys, SysF.func_toWord, SysF.ofWord_toWord]
  simp only [Instr.wellFormed] at h
  split <;> first | rfl | exact absurd h (by decide)

theorem lds (func4 : BitVec 4) (f : LdF) : Statement (.lds func4 f) := fun _ => by
  refine ⟨_, rfl, ?_⟩
  rw [decode_0x62 (LdF.root_toWord ..), vectorOnly_ok (LdF.half_toWord ..), LdF.func_toWord, LdF.ofWord_toWord]

theorem ldVX (func4 : BitVec 4) (f : LdF) : Statement (.ldVX func4 f) := fun _ => by
  refine ⟨_, rfl, ?_⟩
  rw [decode_0x63 (LdF.root_toWord ..), vectorOnly_ok (LdF.half_toWord ..), LdF.func_toWord, LdF.ofWord_toWord]

theorem cvlds (func4 : BitVec 4) (f : LdF) : Statement (.cvlds func4 f) := fun _ => by
  refine ⟨_, rfl, ?_⟩
  rw [decode_0x66 (LdF.root_toWord ..), vectorOnly_ok (LdF.half_toWord ..), LdF.func_toWord, LdF.ofWord_toWord]

theorem cvldVX (func4 : BitVec 4) (f : LdF) : Statement (.cvldVX func4 f) := fun _ => by
  refine ⟨_, rfl, ?_⟩
  rw [decode_0x67 (LdF.root_toWord ..), vectorOnly_ok (LdF.half_toWord ..), LdF.func_toWord, LdF.ofWord_toWord]

theorem sts (func4 : BitVec 4) (f : StF) : Statement (.sts func4 f) := fun _ => by
  refine ⟨_, rfl, ?_⟩
  rw [decode_0x72 (StF.root_toWord ..), vectorOnly_ok (StF.half_toWord ..), StF.func_toWord, StF.ofWord_toWord]

theorem stVX (func4 : BitVec 4) (f : StF) : Statement (.stVX func4 f) := fun _ => by
  refine ⟨_, rfl, ?_⟩
  rw [decode_0x73 (StF.root_toWord ..), vectorOnly_ok (StF.half_toWord ..), StF.func_toWord, StF.ofWord_toWord]

theorem cvsts (func4 : BitVec 4) (f : StF) : Statement (.cvsts func4 f) := fun _ => by
  refine ⟨_, rfl, ?_⟩
  rw [decode_0x76 (StF.root_toWord ..), vectorOnly_ok (StF.half_toWord ..), StF.func_toWord, StF.ofWord_toWord]

theorem cvstVX (func4 : BitVec 4) (f : StF) : Statement (.cvstVX func4 f) := fun _ => by
  refine ⟨_, rfl, ?_⟩
  rw [decode_0x77 (StF.root_toWord ..), vectorOnly_ok (StF.half_toWord ..), StF.func_toWord, StF.ofWord_toWord]

theorem eorR (f : R2F) : Statement (.eorR f) := fun h => nomatch h

theorem eorI (f : RIF) : Statement (.eorI f) := fun h => nomatch h

theorem morB (f : R2F) : Statement (.morB f) := fun h => nomatch h

theorem negSubf (f : RtF) : Statement (.negSubf f) := fun h => nomatch h

theorem sra (f : R2F) : Statement (.sra f) := fun h => nomatch h

theorem srlp (f : R2F) : Statement (.srlp f) := fun h => nomatch h

theorem sgtR (f : R2F) : Statement (.sgtR f) := fun h => nomatch h

theorem sgtuR (f : R2F) : Statement (.sgtuR f) := fun h => nomatch h

theorem sle (f : R2F) : Statement (.sle f) := fun h => nomatch h

theorem sleu (f : R2F) : Statement (.sleu f) := fun h => nomatch h

theorem sign (f : RtF) : Statement (.sign f) := fun h => nomatch h

theorem signF (f : RtF) : Statement (.signF f) := fun h => nomatch h

theorem fsgt (f : R2F) : Statement (.fsgt f) := fun h => nomatch h

theorem fsge (f : R2F) : Statement (.fsge f) := fun h => nomatch h

theorem bgt (f : BrF) : Statement (.bgt f) := fun h => nomatch h

theorem ble (f : BrF) : Statement (.ble f) := fun h => nomatch h

theorem bgtu (f : BrF) : Statement (.bgtu f) := fun h => nomatch h

theorem bleu (f : BrF) : Statement (.bleu f) := fun h => nomatch h

theorem tst : Statement (.tst) := fun _ => ⟨_, rfl, by decide⟩

theorem ptrinc : Statement (.ptrinc) := fun _ => ⟨_, rfl, by decide⟩

theorem transform : Statement (.transform) := fun _ => ⟨_, rfl, by decide⟩

theorem mulh : Statement (.mulh) := fun _ => ⟨_, rfl, by decide⟩

theorem divsuR : Statement (.divsuR) := fun _ => ⟨_, rfl, by decide⟩

theorem remsuR : Statement (.remsuR) := fun _ => ⟨_, rfl, by decide⟩

theorem mulsuR : Statement (.mulsuR) := fun _ => ⟨_, rfl, by decide⟩

theorem mulsuh : Statement (.mulsuh) := fun _ => ⟨_, rfl, by decide⟩

theorem muluh : Statement (.muluh) := fun _ => ⟨_, rfl, by decide⟩

theorem rgf : Statement (.rgf) := fun _ => ⟨_, rfl, by decide⟩

theorem mort : Statement (.mort) := fun _ => ⟨_, rfl, by decide⟩

theorem mxort : Statement (.mxort) := fun _ => ⟨_, rfl, by decide⟩

theorem divsuI : Statement (.divsuI) := fun _ => ⟨_, rfl, by decide⟩

theorem mulsuI : Statement (.mulsuI) := fun _ => ⟨_, rfl, by decide⟩

theorem remsuI : Statement (.remsuI) := fun _ => ⟨_, rfl, by decide⟩

theorem sand : Statement (.sand) := fun _ => ⟨_, rfl, by decide⟩

theorem sor : Statement (.sor) := fun _ => ⟨_, rfl, by decide⟩

theorem setGroup : Statement (.setGroup) := fun _ => ⟨_, rfl, by decide⟩

theorem df1 : Statement (.df1) := fun _ => ⟨_, rfl, by decide⟩

theorem df2 : Statement (.df2) := fun _ => ⟨_, rfl, by decide⟩

theorem pst1 : Statement (.pst1) := fun _ => ⟨_, rfl, by decide⟩

theorem pst2 : Statement (.pst2) := fun _ => ⟨_, rfl, by decide⟩

theorem df3 : Statement (.df3) := fun _ => ⟨_, rfl, by decide⟩

theorem df4 : Statement (.df4) := fun _ => ⟨_, rfl, by decide⟩

theorem pst3 : Statement (.pst3) := fun _ => ⟨_, rfl, by decide⟩

theorem pst4 : Statement (.pst4) := fun _ => ⟨_, rfl, by decide⟩

theorem frsqrte : Statement (.frsqrte) := fun _ => ⟨_, rfl, by decide⟩

theorem ftoi : Statement (.ftoi) := fun _ => ⟨_, rfl, by decide⟩

theorem itof : Statement (.itof) := fun _ => ⟨_, rfl, by decide⟩

theorem fsign : Statement (.fsign) := fun _ => ⟨_, rfl, by decide⟩

theorem fman : Statement (.fman) := fun _ => ⟨_, rfl, by decide⟩

theorem fs2d : Statement (.fs2d) := fun _ => ⟨_, rfl, by decide⟩

theorem fs2q : Statement (.fs2q) := fun _ => ⟨_, rfl, by decide⟩

theorem fd2q : Statement (.fd2q) := fun _ => ⟨_, rfl, by decide⟩

theorem fstat : Statement (.fstat) := fun _ => ⟨_, rfl, by decide⟩

theorem isnan : Statement (.isnan) := fun _ => ⟨_, rfl, by decide⟩

theorem finite : Statement (.finite) := fun _ => ⟨_, rfl, by decide⟩

theorem ftx : Statement (.ftx) := fun _ => ⟨_, rfl, by decide⟩

theorem fcx : Statement (.fcx) := fun _ => ⟨_, rfl, by decide⟩

theorem fex : Statement (.fex) := fun _ => ⟨_, rfl, by decide⟩

theorem fdx : Statement (.fdx) := fun _ => ⟨_, rfl, by decide⟩

theorem frm : Statement (.frm) := fun _ => ⟨_, rfl, by decide⟩

theorem trunc : Statement (.trunc) := fun _ => ⟨_, rfl, by decide⟩

theorem fsync : Statement (.fsync) := fun _ => ⟨_, rfl, by decide⟩

theorem fres : Statement (.fres) := fun _ => ⟨_, rfl, by decide⟩

theorem fsigmoid : Statement (.fsigmoid) := fun _ => ⟨_, rfl, by decide⟩

theorem fd2s : Statement (.fd2s) := fun _ => ⟨_, rfl, by decide⟩

theorem fq2s : Statement (.fq2s) := fun _ => ⟨_, rfl, by decide⟩

theorem fq2d : Statement (.fq2d) := fun _ => ⟨_, rfl, by decide⟩

theorem fclass1 : Statement (.fclass1) := fun _ => ⟨_, rfl, by decide⟩

theorem unord : Statement (.unord) := fun _ => ⟨_, rfl, by decide⟩

theorem scaleb : Statement (.scaleb) := fun _ => ⟨_, rfl, by decide⟩

theorem frem : Statement (.frem) := fun _ => ⟨_, rfl, by decide⟩

theorem fnxt : Statement (.fnxt) := fun _ => ⟨_, rfl, by decide⟩

theorem fandB : Statement (.fandB) := fun _ => ⟨_, rfl, by decide⟩

theorem forB : Statement (.forB) := fun _ => ⟨_, rfl, by decide⟩

theorem cpysgn : Statement (.cpysgn) := fun _ => ⟨_, rfl, by decide⟩

theorem sgninv : Statement (.sgninv) := fun _ => ⟨_, rfl, by decide⟩

theorem sgnand : Statement (.sgnand) := fun _ => ⟨_, rfl, by decide⟩

theorem sgnor : Statement (.sgnor) := fun _ => ⟨_, rfl, by decide⟩

theorem sgnxor : Statement (.sgnxor) := fun _ => ⟨_, rfl, by decide⟩

theorem sgnxnor : Statement (.sgnxnor) := fun _ => ⟨_, rfl, by decide⟩

theorem fclass2 : Statement (.fclass2) := fun _ => ⟨_, rfl, by decide⟩

theorem fma : Statement (.fma) := fun _ => ⟨_, rfl, by decide⟩

theorem fms : Statement (.fms) := fun _ => ⟨_, rfl, by decide⟩

theorem fnma : Statement (.fnma) := fun _ => ⟨_, rfl, by decide⟩

theorem fnms : Statement (.fnms) := fun _ => ⟨_, rfl, by decide⟩

theorem fblt : Statement (.fblt) := fun _ => ⟨_, rfl, by decide⟩

theorem fbge : Statement (.fbge) := fun _ => ⟨_, rfl, by decide⟩

theorem dfblt : Statement (.dfblt) := fun _ => ⟨_, rfl, by decide⟩

theorem dfbge : Statement (.dfbge) := fun _ => ⟨_, rfl, by decide⟩

theorem fbeq : Statement (.fbeq) := fun _ => ⟨_, rfl, by decide⟩

theorem fbne : Statement (.fbne) := fun _ => ⟨_, rfl, by decide⟩

theorem exi3 : Statement (.exi3) := fun _ => ⟨_, rfl, by decide⟩

theorem exi4 : Statement (.exi4) := fun _ => ⟨_, rfl, by decide⟩

theorem unnamed5B : Statement (.unnamed5B) := fun _ => ⟨_, rfl, by decide⟩

theorem vectorHalf : Statement (.vectorHalf) := fun _ => ⟨_, rfl, by decide⟩

theorem lsm : Statement (.lsm) := fun _ => ⟨_, rfl, by decide⟩

theorem ret : Statement (.ret) := fun _ => ⟨_, rfl, by decide⟩

theorem llal : Statement (.llal) := fun _ => ⟨_, rfl, by decide⟩

theorem llah : Statement (.llah) := fun _ => ⟨_, rfl, by decide⟩

theorem lpal : Statement (.lpal) := fun _ => ⟨_, rfl, by decide⟩

theorem lpah : Statement (.lpah) := fun _ => ⟨_, rfl, by decide⟩

theorem pfi : Statement (.pfi) := fun _ => ⟨_, rfl, by decide⟩

theorem wfi : Statement (.wfi) := fun _ => ⟨_, rfl, by decide⟩

theorem setkey : Statement (.setkey) := fun _ => ⟨_, rfl, by decide⟩

theorem setto : Statement (.setto) := fun _ => ⟨_, rfl, by decide⟩

theorem getto : Statement (.getto) := fun _ => ⟨_, rfl, by decide⟩

theorem getzl : Statement (.getzl) := fun _ => ⟨_, rfl, by decide⟩

theorem mvseg : Statement (.mvseg) := fun _ => ⟨_, rfl, by decide⟩

theorem sync : Statement (.sync) := fun _ => ⟨_, rfl, by decide⟩

end Sys2Proof.Laws.RoundTrip
end

