-- ==== Sys2Proof/Laws/Words.lean ====
section
/-! SUPPORT. What the word functions of Sys2Proof/Machine/Bits.lean and Flags.lean compute, said in integers and bits: one lemma per
function, which proofs cite instead of unfolding it. -/

namespace Sys2Proof.Machine

/-! ## Bits -/

/-- The low bits of a vector. -/
theorem extractLsb'_zero_eq {m : Nat} (a : BitVec m) (n : Nat) : a.extractLsb' 0 n = a.setWidth n := by
  apply BitVec.eq_of_toNat_eq
  simp [BitVec.extractLsb'_toNat]

/-- Zero extension. -/
theorem zext_ofNat {n : Nat} (x : BitVec n) : zext x = BitVec.ofNat 64 x.toNat := by
  apply BitVec.eq_of_toNat_eq
  simp [zext]

/-- Sign extension. -/
theorem sext_ofInt {n : Nat} (x : BitVec n) : sext x = BitVec.ofInt 64 x.toInt := rfl

/-- One extension. -/
theorem oext_ofNat (x : BitVec 16) : oext x = BitVec.ofNat 64 (2 ^ 64 - 2 ^ 16 + x.toNat) := by
  apply BitVec.eq_of_toNat_eq
  simp only [oext, BitVec.toNat_or, BitVec.toNat_setWidth, BitVec.toNat_ofNat]
  rw [Nat.mod_eq_of_lt (a := x.toNat) (by omega), show (18446744073709486080 % 2 ^ 64) = 281474976710655 <<< 16 by decide,
    ← Nat.shiftLeft_add_eq_or_of_lt x.isLt]
  omega

/-- A bit of a vector given by its bits. -/
theorem getLsbD_bitsOf (n : Nat) (f : Nat → Bool) (i : Nat) : (bitsOf n f).getLsbD i = (decide (i < n) && f i) := by
  induction n with
  | zero => simp [bitsOf]
  | succ n ih =>
    simp only [bitsOf, BitVec.getLsbD_cons, ih]
    by_cases h : i = n
    · subst h
      simp
    · by_cases h2 : i < n
      · simp [h, h2, Nat.lt_succ_of_lt h2]
      · have h3 : ¬ i < n + 1 := by omega
        simp [h, h2, h3]

/-- A field mask has the bits 0 to `w`. -/
theorem getLsbD_fieldMask (w : BitVec 6) (i : Nat) : (fieldMask w).getLsbD i = decide (i ≤ w.toNat) := by
  have := w.isLt
  unfold fieldMask
  rw [BitVec.getLsbD_ushiftRight, BitVec.getLsbD_allOnes]
  exact decide_eq_decide.2 (by omega)

/-- Leading zeros by the logarithm. -/
theorem leadingZeros_log2 {n : Nat} (x : BitVec n) : leadingZeros x = if x = 0 then n else n - 1 - x.toNat.log2 := by
  unfold leadingZeros
  by_cases hx : x = 0
  · subst hx
    rw [List.find?_eq_none.2 (by simp)]
    simp
  · rw [if_neg hx]
    have hne : x.toNat ≠ 0 := fun h => hx (BitVec.eq_of_toNat_eq (by simpa using h))
    have hl : x.toNat.log2 < n := (Nat.log2_lt hne).2 x.isLt
    have : (List.range n).find? (fun i => x.getLsbD (n - 1 - i)) = some (n - 1 - x.toNat.log2) := by
      rw [List.find?_range_eq_some]
      refine ⟨?_, by simp; omega, fun j hj => ?_⟩
      · rw [show n - 1 - (n - 1 - x.toNat.log2) = x.toNat.log2 by omega]
        simp [BitVec.getLsbD, Nat.testBit_log2 hne]
      · have : x.toNat.testBit (n - 1 - j) = false :=
          Nat.testBit_lt_two_pow ((Nat.log2_lt hne).1 (by omega))
        simp [BitVec.getLsbD, this]
    rw [this]
    rfl

/-- The number of ones as the size of the set of their places. -/
theorem popCount_card {n : Nat} (x : BitVec n) : popCount x = Finset.card {i : Fin n | x.getLsbD i.val = true} := by
  have h1 : popCount x = ((Finset.range n).filter (fun i => x.getLsbD i = true)).card := by
    simp [popCount, Finset.card, Finset.filter, Finset.range, Multiset.range]
  rw [h1]
  symm
  apply Finset.card_bij (fun (i : Fin n) _ => i.val)
  · intro a ha
    simp only [Finset.mem_filter, Finset.mem_univ, true_and] at ha
    simp [ha]
  · exact fun a _ b _ h => Fin.ext h
  · intro b hb
    simp only [Finset.mem_filter, Finset.mem_range] at hb
    exact ⟨⟨b, hb.1⟩, by simp [hb.2], rfl⟩

/-- Folding exclusive or says whether the number of ones is odd. -/
theorem foldl_xor_odd (f : Nat → Bool) (n : Nat) :
    (List.range n).foldl (fun acc k => acc ^^ f k) false = true ↔ Odd (Finset.card {k : Fin n | f k.val = true}) := by
  induction n with
  | zero => simp
  | succ n ih =>
    rw [List.range_succ, List.foldl_append]
    simp only [List.foldl_cons, List.foldl_nil]
    rw [Fin.univ_castSuccEmb, Finset.filter_cons]
    have e : (Finset.filter (fun k : Fin (n + 1) => f k.val = true) (Finset.map Fin.castSuccEmb Finset.univ)).card =
        Finset.card {k : Fin n | f k.val = true} := by
      rw [Finset.filter_map, Finset.card_map]
      rfl
    split
    · rename_i h
      simp only [Fin.val_last] at h
      rw [Finset.card_cons, e, Nat.odd_add_one, ← ih]
      simp [h]
    · rename_i h
      simp only [Fin.val_last, Bool.not_eq_true] at h
      rw [e, ← ih]
      simp [h]

/-! ## Arithmetic -/

theorem add_ofInt_toInt (a b : Word) : a + b = BitVec.ofInt 64 (a.toInt + b.toInt) := by
  rw [BitVec.ofInt_add, BitVec.ofInt_toInt, BitVec.ofInt_toInt]

theorem sub_ofInt_toInt (a b : Word) : a - b = BitVec.ofInt 64 (a.toInt - b.toInt) := by
  apply BitVec.eq_of_toInt_eq
  simp [BitVec.toInt_sub]

theorem mul_ofInt_toInt (a b : Word) : a * b = BitVec.ofInt 64 (a.toInt * b.toInt) := by
  rw [BitVec.ofInt_mul, BitVec.ofInt_toInt, BitVec.ofInt_toInt]

theorem slt_iff_toInt (a b : Word) : a.slt b = true ↔ a.toInt < b.toInt := by simp [BitVec.slt]
theorem sle_iff_toInt (a b : Word) : a.sle b = true ↔ a.toInt ≤ b.toInt := by simp [BitVec.sle]
theorem ult_iff_toNat (a b : Word) : a.ult b = true ↔ a.toNat < b.toNat := by simp [BitVec.ult]
theorem ule_iff_toNat (a b : Word) : a.ule b = true ↔ a.toNat ≤ b.toNat := by simp [BitVec.ule]

/-- A Boolean as a word. -/
theorem boolWord_truth (p : Prop) [Decidable p] (b : Bool) (h : b = true ↔ p) : boolWord b = truth p := by
  unfold boolWord truth
  by_cases hp : p <;> simp_all

/-- CMP. -/
theorem compareSigned_toInt (a b : Word) :
    compareSigned a b = if a.toInt < b.toInt then -1#64 else if a.toInt = b.toInt then 0#64 else 1#64 := by
  unfold compareSigned
  simp only [slt_iff_toInt, ← BitVec.toInt_inj]

/-- Signed division. -/
theorem quotSigned_eq (op : DivOp) (a b : Word) : quotSigned op a b = signedQuotient op a b := by
  unfold quotSigned signedQuotient
  have e : (a = 0x8000000000000000#64 ∧ b = -1#64) ↔ (a.toInt = -2 ^ 63 ∧ b.toInt = -1) := by
    rw [← BitVec.toInt_inj, ← BitVec.toInt_inj]
    rfl
  simp only [e]
  split
  · rfl
  · apply BitVec.eq_of_toInt_eq
    rw [BitVec.toInt_sdiv, BitVec.toInt_ofInt]

/-- Signed remainder. -/
theorem remSigned_eq (a b : Word) : remSigned a b = signedRemainder a b := by
  unfold remSigned signedRemainder
  have e : (a = 0x8000000000000000#64 ∧ b = -1#64) ↔ (a.toInt = -2 ^ 63 ∧ b.toInt = -1) := by
    rw [← BitVec.toInt_inj, ← BitVec.toInt_inj]
    rfl
  simp only [e]
  split
  · rfl
  · rw [← BitVec.toInt_srem, BitVec.ofInt_toInt]

/-- Unsigned division. -/
theorem quotUnsigned_eq (op : DivOp) (a b : Word) : quotUnsigned op a b = unsignedQuotient op a b := by
  unfold quotUnsigned unsignedQuotient
  split
  · rfl
  · rw [← BitVec.toNat_udiv, BitVec.ofNat_toNat, BitVec.setWidth_eq]
    rfl

/-- Unsigned remainder. -/
theorem remUnsigned_eq (a b : Word) : remUnsigned a b = unsignedRemainder a b := by
  unfold remUnsigned unsignedRemainder
  split
  · rfl
  · rw [← BitVec.toNat_umod, BitVec.ofNat_toNat, BitVec.setWidth_eq]
    rfl

/-- DIF. -/
theorem distance_eq (a b : Word) : distance a b = BitVec.ofNat 64 (a.toInt - b.toInt).natAbs := by
  unfold distance
  split
  · rename_i h
    rw [sle_iff_toInt] at h
    rw [sub_ofInt_toInt, show a.toInt - b.toInt = ((a.toInt - b.toInt).natAbs : Int) by omega]
    rfl
  · rename_i h
    rw [sle_iff_toInt] at h
    rw [sub_ofInt_toInt, show b.toInt - a.toInt = ((a.toInt - b.toInt).natAbs : Int) by omega]
    rfl

/-- MULF. -/
theorem fastMul_eq (a b : Word) : fastMul a b = BitVec.ofNat 64 ((a.toNat % 2 ^ 24) * (b.toNat % 2 ^ 16)) := by
  apply BitVec.eq_of_toNat_eq
  simp only [fastMul, BitVec.toNat_mul, BitVec.toNat_setWidth, BitVec.extractLsb'_toNat, BitVec.toNat_ofNat,
    Nat.shiftRight_zero]
  rw [Nat.mod_eq_of_lt (a := a.toNat % 2 ^ 24) (by omega), Nat.mod_eq_of_lt (a := b.toNat % 2 ^ 16) (by omega)]

/-- The bits of a root, from an approximation from below. -/
theorem sqrtBits_spec (x k acc : Nat) (h1 : acc * acc ≤ x) (h2 : x < (acc + 2 ^ k) * (acc + 2 ^ k)) :
    sqrtBits x k acc * sqrtBits x k acc ≤ x ∧ x < (sqrtBits x k acc + 1) * (sqrtBits x k acc + 1) := by
  induction k generalizing acc with
  | zero => simpa [sqrtBits] using ⟨h1, h2⟩
  | succ k ih =>
    simp only [sqrtBits]
    split
    · apply ih _ (by assumption)
      rw [show acc + 2 ^ k + 2 ^ k = acc + 2 ^ (k + 1) by rw [pow_succ]; ring]
      exact h2
    · exact ih _ h1 (by omega)

/-- SQRT. -/
theorem isqrt_eq (a : Word) : isqrt a = BitVec.ofNat 64 (Nat.sqrt a.toNat) := by
  unfold isqrt
  obtain ⟨h1, h2⟩ := sqrtBits_spec a.toNat 32 0 (by simp) (by have := a.isLt; norm_num; omega)
  congr 1
  exact Nat.eq_sqrt.2 ⟨h1, h2⟩

/-! ## Shifts -/

theorem shiftLeft_ofNat (a : Word) (n : Nat) : a <<< n = BitVec.ofNat 64 (a.toNat * 2 ^ n) := by
  apply BitVec.eq_of_toNat_eq
  simp [Nat.shiftLeft_eq]

theorem ushiftRight_ofNat (a : Word) (n : Nat) : a >>> n = BitVec.ofNat 64 (a.toNat / 2 ^ n) := by
  apply BitVec.eq_of_toNat_eq
  simp only [BitVec.toNat_ushiftRight, Nat.shiftRight_eq_div_pow, BitVec.toNat_ofNat]
  exact (Nat.mod_eq_of_lt (Nat.lt_of_le_of_lt (Nat.div_le_self _ _) a.isLt)).symm

/-- SLLP. -/
theorem shiftPairLeft_ofNat (a c : Word) (n : BitVec 6) :
    shiftPairLeft a c n = BitVec.ofNat 64 ((a.toNat * 2 ^ 64 + c.toNat) * 2 ^ n.toNat / 2 ^ 64) := by
  apply BitVec.eq_of_toNat_eq
  simp only [shiftPairLeft, BitVec.extractLsb'_toNat, BitVec.toNat_shiftLeft, BitVec.toNat_append, BitVec.toNat_ofNat,
    Nat.shiftRight_eq_div_pow]
  rw [← Nat.shiftLeft_add_eq_or_of_lt c.isLt, Nat.shiftLeft_eq, Nat.shiftLeft_eq]
  omega

/-- A full-width field of the pair: SRA and SRLP. -/
theorem pairField_full (a b : Word) (off : BitVec 6) :
    pairField a b off 63#6 = BitVec.ofNat 64 ((b.toNat * 2 ^ 64 + a.toNat) / 2 ^ off.toNat) := by
  apply BitVec.eq_of_toNat_eq
  have : fieldMask 63#6 = BitVec.allOnes 64 := by decide
  simp only [pairField, this, BitVec.and_allOnes, BitVec.toNat_setWidth, BitVec.toNat_ushiftRight, BitVec.toNat_append,
    BitVec.toNat_ofNat, Nat.shiftRight_eq_div_pow]
  rw [← Nat.shiftLeft_add_eq_or_of_lt a.isLt, Nat.shiftLeft_eq]

/-- A full-width field is its own sign extension. -/
theorem signField_full (x : Word) : signField x 63#6 = x := by
  simp [signField]

end Sys2Proof.Machine
end

