-- ==== Sys2Proof/Tests/Slice0.lean ====
section
/-! SUPPORT. The model's tests: ill-formed terms that WellFormed refuses; for every constructor with a word, that word,
composed from the fields of spec/opcode_table.json, and the instruction it decodes to; the test vectors of
spec/95_test_vectors.md, each one step on a small state; and, for every statement with hypotheses, a state and operands
that meet them. -/

namespace Sys2Proof.Tests

open Sys2Proof.Machine

set_option maxRecDepth 10000

/-! ## Helpers -/

/-- Scalar registers set from (number, value) pairs. -/
def regs (l : List (Nat × Nat)) (s : State := State.reset) : State :=
  l.foldl (fun s p => s.setReg (BitVec.ofNat 5 p.1) (BitVec.ofNat 64 p.2)) s

/-- Bytes of memory from an address on. -/
def withBytes (s : State) (a : Nat) (l : List Nat) : State :=
  l.zipIdx.foldl (fun s p => { s with mem := sparseSet 0#8 s.mem (a + p.2) (BitVec.ofNat 8 p.1) }) s

/-- Elements of a vector register from element 0 on. -/
def withVec (r : Nat) (l : List Nat) (s : State) : State :=
  l.zipIdx.foldl (fun s p => s.setElem (BitVec.ofNat 5 r) p.2 (BitVec.ofNat 64 p.1)) s

/-- A mask register. -/
def withMask (m v : Nat) (s : State) : State := s.setMask (BitVec.ofNat 3 m) (BitVec.ofNat 128 v)

/-- The instruction pointer. -/
def atIp (s : State) (ip : Nat) : State := { s with ip := BitVec.ofNat 64 ip }

/-- The policy that splits misaligned accesses into bytes. -/
def splitting (s : State) : State := { s with cfg := { s.cfg with misaligned := .splitLittleEndian } }

/-- VLMAX 8, VL 4 (section 10 of the vectors). -/
def vecRegs (l : List (Nat × Nat)) (vl : Nat := 4) : State :=
  { regs l with vl := BitVec.ofNat 64 vl, cfg := { Params.reset with vlmax := 8 } }

/-- The contents of queue 4. -/
def withQueue4 (l : List Nat) (s : State) : State := s.setQueue 4 (l.map (BitVec.ofNat 64 ·))

/-- A trap vector for debug mode. -/
def withTvec4 (s : State) : State := { s with tvec := s.tvec.set 4 0x100#64 }

/-- A csr_map with one register, number 3001h. -/
def csrOf (reg : CsrReg) (read write : Word) (on : CsrWrite) : Params :=
  { Params.reset with
    csrMap := [(0x3001#14, { reg := reg, readMask := read, writeMask := write, onWrite := on, setClear := true })] }

/-- Number 3001h is the whole badaddr register of machine mode. -/
def csrCfg (on : CsrWrite) : Params := csrOf (.badaddr .machine) (BitVec.allOnes 64) (BitVec.allOnes 64) on

/-- The bytes 8000h to 80FFh are a device's. -/
def deviceState (s : State) : State := { s with cfg := { s.cfg with mmio := [{ base := 0x8000, size := 0x100 }] } }

/-- A debug handler about to redirect. -/
def rexState (b : Bool) : State :=
  { State.reset with
    cfg := { Params.reset with rexEnabled := .table #v[b, b, b, b] }
    cause := #v[0, 0, 0, 0, 7]
    badaddr := #v[0, 0, 0, 0, 0x40]
    tvec := #v[0, 0x800, 0, 0, 0] }

/-- The memory of section 6 of the vectors, x2 = 1000h. -/
def m0 : State :=
  withBytes (regs [(2, 0x1000)]) 0x1000
    [0x88, 0x77, 0x66, 0x55, 0x44, 0x33, 0x22, 0x11, 0x80, 0xFF, 0x34, 0x92, 0, 0, 0, 0x80]

/-- One step on a bundle of words, the first in the low bits. -/
def run (s : State) (words w : Nat) : Out := step (s.withFetchWord (36 * words) w)

/-- A next state of which `p` holds. -/
def holds (o : Out) (p : State → Bool) : Bool :=
  match o with
  | .next s => p s
  | _ => false

/-- A refusal by this name. -/
def refusedAs (o : Out) (r : Refusal) : Bool :=
  match o with
  | .refused q => decide (q = r)
  | _ => false

/-- x1 and ip after one step from a state with these registers. -/
def x1After (words w : Nat) (l : List (Nat × Nat)) : Option (Nat × Nat) :=
  match run (regs l) words w with
  | .next t => some ((t.reg 1#5).toNat, t.ip.toNat)
  | _ => none

def x1Is (n : Nat) (s : State) : Bool := s.reg 1#5 == BitVec.ofNat 64 n
def ipIs (n : Nat) (s : State) : Bool := s.ip == BitVec.ofNat 64 n
def bytesAre (s : State) (a : Nat) (l : List Nat) : Bool := l.zipIdx.all (fun p => s.byteAt (a + p.2) == BitVec.ofNat 8 p.1)
def vecIs (s : State) (r : Nat) (l : List Nat) : Bool :=
  l.zipIdx.all (fun p => s.elem (BitVec.ofNat 5 r) p.2 == BitVec.ofNat 64 p.1)
def maskOf (m : Nat) (s : State) : Nat := (s.mask (BitVec.ofNat 3 m)).toNat
def queue4 (s : State) : List Nat := (s.queue 4#6).map (·.toNat)
def trapsTo (s : State) (c eip : Nat) : Bool :=
  s.ip == 0x100#64 && s.cause[4] == BitVec.ofNat 64 c && s.eip == BitVec.ofNat 64 eip

/-! ## Well-formedness: an ill-formed term for each check -/

def r1 (v : Bool) : R1F := { m3 := 0, z := false, ta := true, ra := 2, tt := false, rt := 1, v := v }
def r2 (v : Bool) : R2F := { tb := 0, rb := 3, ta := true, ra := 2, tt := true, rt := 1, v := v }
def ld : LdF := { disp12 := 8, ta := false, ra := 2, tt := false, rt := 1 }
def ldx : LdxF := { sc := 0, tb := 0, rb := 3, ta := false, ra := 2, tt := false, rt := 1 }
def st : StF := { disp11 := 8, tb := 0, rb := 3, ta := false, ra := 2 }
def stx : StxF := { sc := 0, tb := 0, rb := 3, ta := false, ra := 2 }
def sys : SysF := { rb6 := 3, ra6 := 2, rt6 := 1 }
def csr : CsrF := { regno := 0x3001, ta2 := 0, ra := 2, rt := 1 }
def ri : RIF := { imm16 := 5, ta := false, ra := 2, tt := false, rt := 1, v := false }
def rtOnly : RtF := { ta := false, ra := 2, tt := false, rt := 1, v := false }
def br : BrF := { disp15 := 3, tb := 0, rb := 2, ta := false, ra := 1 }
def vmGet : VmGetF := { vm := 2, tt2 := 0, rt := 1 }
def lea : LeaF := { disp := 4, size := 3, sc := 1, tb := 0, rb := 3, ta := false, ra := 2, tt := false, rt := 1 }
def leaV : LeaVF := { indexed := false, disp := 4, m3 := 0, z := false, rb := 3, ra := 2, rt := 1 }

/-- The rows that fix `v = 1`. -/
theorem test_wellFormed_vector_only :
    (Instr.v2bits (r1 false)).wellFormed = false ∧ (Instr.vbits2v (r1 false)).wellFormed = false ∧
    (Instr.vcmprss (r1 false)).wellFormed = false ∧ (Instr.vcidx (r1 false)).wellFormed = false ∧
    (Instr.vscan (r1 false)).wellFormed = false ∧ (Instr.vsllv (r2 false)).wellFormed = false ∧
    (Instr.vsrlv (r2 false)).wellFormed = false ∧ (Instr.vex (r2 false)).wellFormed = false ∧
    (Instr.veins (r2 false)).wellFormed = false ∧ (Instr.v2bits (r1 true)).wellFormed = true := by
  decide

/-- A generic row where a named row has the word. -/
theorem test_wellFormed_generic :
    (Instr.ldx 0 ld).wellFormed = false ∧ (Instr.ldx 15 ld).wellFormed = false ∧ (Instr.ldxZ 3 ld).wellFormed = false ∧
    (Instr.ldxX 2 ldx).wellFormed = false ∧ (Instr.ldxXZ 1 ldx).wellFormed = false ∧
    (Instr.stx 7 st).wellFormed = false ∧ (Instr.stxX 7 stx).wellFormed = false ∧ (Instr.csrx 0 csr).wellFormed = false ∧
    (Instr.jal 0 0).wellFormed = false ∧ (Instr.bal 0 0).wellFormed = false ∧ (Instr.bal 0 1).wellFormed = false ∧
    (Instr.jalr { c14 := 0, ta2 := 0, ra := 1, cnst5 := 0, rt2 := 0 }).wellFormed = false ∧
    (Instr.sysOther 0x08 sys).wellFormed = false ∧ (Instr.ldx 4 ld).wellFormed = true ∧
    (Instr.sysOther 0x30 sys).wellFormed = true := by
  decide

/-- The rows without a word of their own. -/
theorem test_wellFormed_no_word :
    (Instr.cntlzM vmGet).wellFormed = false ∧ (Instr.lea lea).wellFormed = false ∧ (Instr.leaV leaV).wellFormed = false ∧
    (Instr.stbz st).wellFormed = false ∧ (Instr.stwz st).wellFormed = false ∧ (Instr.sttz st).wellFormed = false ∧
    (Instr.stoz st).wellFormed = false := by
  decide

/-- The rows that are another spelling of a core word. -/
theorem test_wellFormed_alias :
    (Instr.eorR (r2 false)).wellFormed = false ∧ (Instr.eorI ri).wellFormed = false ∧
    (Instr.morB (r2 false)).wellFormed = false ∧ (Instr.negSubf rtOnly).wellFormed = false ∧
    (Instr.sra (r2 false)).wellFormed = false ∧ (Instr.srlp (r2 false)).wellFormed = false ∧
    (Instr.sgtR (r2 false)).wellFormed = false ∧ (Instr.sgtuR (r2 false)).wellFormed = false ∧
    (Instr.sle (r2 false)).wellFormed = false ∧ (Instr.sleu (r2 false)).wellFormed = false ∧
    (Instr.sign rtOnly).wellFormed = false ∧ (Instr.signF rtOnly).wellFormed = false ∧
    (Instr.fsgt (r2 false)).wellFormed = false ∧ (Instr.fsge (r2 false)).wellFormed = false ∧
    (Instr.bgt br).wellFormed = false ∧ (Instr.ble br).wellFormed = false ∧ (Instr.bgtu br).wellFormed = false ∧
    (Instr.bleu br).wellFormed = false := by
  decide

/-- The words of the other spellings (R227, R207, R259, R288, R291, R271, R272, R275, R276, R353, R354, R470), composed
from the core rows. -/
theorem test_encode_alias :
    encode (.eorR (r2 false)) = some 0x04038A102#36 ∧ encode (.eorI ri) = some 0x00050810A#36 ∧
    encode (.morB (r2 false)) = some 0x60038A102#36 ∧ encode (.negSubf rtOnly) = some 0x000008105#36 ∧
    encode (.sra (r2 false)) = some 0x08038A11C#36 ∧ encode (.srlp (r2 false)) = some 0x0A038A11C#36 ∧
    encode (.sgtR (r2 false)) = some 0x58038A102#36 ∧ encode (.sgtuR (r2 false)) = some 0x5C038A102#36 ∧
    encode (.sle (r2 false)) = some 0x5A038A102#36 ∧ encode (.sleu (r2 false)) = some 0x5E038A102#36 ∧
    encode (.sign rtOnly) = some 0x400008102#36 ∧ encode (.signF rtOnly) = some 0x200008135#36 ∧
    encode (.fsgt (r2 false)) = some 0x24038A135#36 ∧ encode (.fsge (r2 false)) = some 0x26038A135#36 ∧
    encode (.bgt br) = some 0x000204348#36 ∧ encode (.ble br) = some 0x000204349#36 ∧
    encode (.bgtu br) = some 0x00020434A#36 ∧ encode (.bleu br) = some 0x00020434B#36 := by
  decide

/-! ## Decoding -/

theorem test_decode_integer_one_source_1 :
    decode 0x000B88181#36 = .ok (.cntlz { m3 := 5, z := true, ta := true, ra := 2, tt := false, rt := 1, v := true }) ∧
    decode 0x020B88181#36 = .ok (.cntlo { m3 := 5, z := true, ta := true, ra := 2, tt := false, rt := 1, v := true }) ∧
    decode 0x040B88181#36 = .ok (.cntpop { m3 := 5, z := true, ta := true, ra := 2, tt := false, rt := 1, v := true }) ∧
    decode 0x060B88181#36 = .ok (.com { m3 := 5, z := true, ta := true, ra := 2, tt := false, rt := 1, v := true }) ∧
    decode 0x080B88181#36 = .ok (.notL { m3 := 5, z := true, ta := true, ra := 2, tt := false, rt := 1, v := true }) ∧
    decode 0x0A0B88181#36 = .ok (.neg { m3 := 5, z := true, ta := true, ra := 2, tt := false, rt := 1, v := true }) ∧
    decode 0x0C0B88181#36 = .ok (.abs { m3 := 5, z := true, ta := true, ra := 2, tt := false, rt := 1, v := true }) ∧
    decode 0x0E0B88181#36 = .ok (.nabs { m3 := 5, z := true, ta := true, ra := 2, tt := false, rt := 1, v := true }) ∧
    decode 0x100B88181#36 = .ok (.sqrt { m3 := 5, z := true, ta := true, ra := 2, tt := false, rt := 1, v := true }) ∧
    decode 0x180B88181#36 = .ok (.zxb { m3 := 5, z := true, ta := true, ra := 2, tt := false, rt := 1, v := true }) ∧
    decode 0x1A0B88181#36 = .ok (.zxw { m3 := 5, z := true, ta := true, ra := 2, tt := false, rt := 1, v := true }) ∧
    decode 0x1C0B88181#36 = .ok (.zxt { m3 := 5, z := true, ta := true, ra := 2, tt := false, rt := 1, v := true }) ∧
    decode 0x280B88181#36 = .ok (.sxb { m3 := 5, z := true, ta := true, ra := 2, tt := false, rt := 1, v := true }) ∧
    decode 0x2A0B88181#36 = .ok (.sxw { m3 := 5, z := true, ta := true, ra := 2, tt := false, rt := 1, v := true }) ∧
    decode 0x2C0B88181#36 = .ok (.sxt { m3 := 5, z := true, ta := true, ra := 2, tt := false, rt := 1, v := true }) ∧
    decode 0x300B88181#36 = .ok (.v2bits { m3 := 5, z := true, ta := true, ra := 2, tt := false, rt := 1, v := true }) := by
  decide

theorem test_decode_integer_one_source_2 :
    decode 0x320B88181#36 = .ok (.vbits2v { m3 := 5, z := true, ta := true, ra := 2, tt := false, rt := 1, v := true }) ∧
    decode 0x380B88181#36 = .ok (.vcmprss { m3 := 5, z := true, ta := true, ra := 2, tt := false, rt := 1, v := true }) ∧
    decode 0x3A0B88181#36 = .ok (.vcidx { m3 := 5, z := true, ta := true, ra := 2, tt := false, rt := 1, v := true }) ∧
    decode 0x3C0B88181#36 = .ok (.vscan { m3 := 5, z := true, ta := true, ra := 2, tt := false, rt := 1, v := true }) := by
  decide

theorem test_decode_integer_two_source_1 :
    decode 0x005388182#36 = .ok (.andR { tb := 2, rb := 19, ta := true, ra := 2, tt := false, rt := 1, v := true }) ∧
    decode 0x025388182#36 = .ok (.orR { tb := 2, rb := 19, ta := true, ra := 2, tt := false, rt := 1, v := true }) ∧
    decode 0x045388182#36 = .ok (.xorR { tb := 2, rb := 19, ta := true, ra := 2, tt := false, rt := 1, v := true }) ∧
    decode 0x085388182#36 = .ok (.addR { tb := 2, rb := 19, ta := true, ra := 2, tt := false, rt := 1, v := true }) ∧
    decode 0x0A5388182#36 = .ok (.sub { tb := 2, rb := 19, ta := true, ra := 2, tt := false, rt := 1, v := true }) ∧
    decode 0x0C5388182#36 = .ok (.mulR { tb := 2, rb := 19, ta := true, ra := 2, tt := false, rt := 1, v := true }) ∧
    decode 0x105388182#36 = .ok (.nand { tb := 2, rb := 19, ta := true, ra := 2, tt := false, rt := 1, v := true }) ∧
    decode 0x125388182#36 = .ok (.nor { tb := 2, rb := 19, ta := true, ra := 2, tt := false, rt := 1, v := true }) ∧
    decode 0x145388182#36 = .ok (.xnor { tb := 2, rb := 19, ta := true, ra := 2, tt := false, rt := 1, v := true }) ∧
    decode 0x1A5388182#36 = .ok (.mulfR0D { tb := 2, rb := 19, ta := true, ra := 2, tt := false, rt := 1, v := true }) ∧
    decode 0x1C5388182#36 = .ok (.muluR { tb := 2, rb := 19, ta := true, ra := 2, tt := false, rt := 1, v := true }) ∧
    decode 0x205388182#36 = .ok (.divR { tb := 2, rb := 19, ta := true, ra := 2, tt := false, rt := 1, v := true }) ∧
    decode 0x225388182#36 = .ok (.divuR { tb := 2, rb := 19, ta := true, ra := 2, tt := false, rt := 1, v := true }) ∧
    decode 0x265388182#36 = .ok (.remR { tb := 2, rb := 19, ta := true, ra := 2, tt := false, rt := 1, v := true }) ∧
    decode 0x285388182#36 = .ok (.remuR { tb := 2, rb := 19, ta := true, ra := 2, tt := false, rt := 1, v := true }) ∧
    decode 0x2E5388182#36 = .ok (.permR { tb := 2, rb := 19, ta := true, ra := 2, tt := false, rt := 1, v := true }) := by
  decide

theorem test_decode_integer_two_source_2 :
    decode 0x305388182#36 = .ok (.dif { tb := 2, rb := 19, ta := true, ra := 2, tt := false, rt := 1, v := true }) ∧
    decode 0x325388182#36 = .ok (.sll { tb := 2, rb := 19, ta := true, ra := 2, tt := false, rt := 1, v := true }) ∧
    decode 0x342B88182#36 = .ok (.slli { imm6 := 43, ta := true, ra := 2, tt := false, rt := 1, v := true }) ∧
    decode 0x365388182#36 = .ok (.wydndxR { tb := 2, rb := 19, ta := true, ra := 2, tt := false, rt := 1, v := true }) ∧
    decode 0x385388182#36 = .ok (.mulfR { tb := 2, rb := 19, ta := true, ra := 2, tt := false, rt := 1, v := true }) ∧
    decode 0x405388182#36 = .ok (.cmp { tb := 2, rb := 19, ta := true, ra := 2, tt := false, rt := 1, v := true }) ∧
    decode 0x425388182#36 = .ok (.srl { tb := 2, rb := 19, ta := true, ra := 2, tt := false, rt := 1, v := true }) ∧
    decode 0x442B88182#36 = .ok (.srli { imm6 := 43, ta := true, ra := 2, tt := false, rt := 1, v := true }) ∧
    decode 0x465388182#36 = .ok (.u21ndxR { tb := 2, rb := 19, ta := true, ra := 2, tt := false, rt := 1, v := true }) ∧
    decode 0x4C5388182#36 = .ok (.seqR { tb := 2, rb := 19, ta := true, ra := 2, tt := false, rt := 1, v := true }) ∧
    decode 0x4E5388182#36 = .ok (.sneR { tb := 2, rb := 19, ta := true, ra := 2, tt := false, rt := 1, v := true }) ∧
    decode 0x505388182#36 = .ok (.min { tb := 2, rb := 19, ta := true, ra := 2, tt := false, rt := 1, v := true }) ∧
    decode 0x525388182#36 = .ok (.max { tb := 2, rb := 19, ta := true, ra := 2, tt := false, rt := 1, v := true }) ∧
    decode 0x585388182#36 = .ok (.sltR { tb := 2, rb := 19, ta := true, ra := 2, tt := false, rt := 1, v := true }) ∧
    decode 0x5A5388182#36 = .ok (.sge { tb := 2, rb := 19, ta := true, ra := 2, tt := false, rt := 1, v := true }) ∧
    decode 0x5C5388182#36 = .ok (.sltuR { tb := 2, rb := 19, ta := true, ra := 2, tt := false, rt := 1, v := true }) := by
  decide

theorem test_decode_integer_two_source_3 :
    decode 0x5E5388182#36 = .ok (.sgeu { tb := 2, rb := 19, ta := true, ra := 2, tt := false, rt := 1, v := true }) ∧
    decode 0x605388182#36 = .ok (.bmm { tb := 2, rb := 19, ta := true, ra := 2, tt := false, rt := 1, v := true }) ∧
    decode 0x625388182#36 = .ok (.mxorB { tb := 2, rb := 19, ta := true, ra := 2, tt := false, rt := 1, v := true }) ∧
    decode 0x6C5389182#36 = .ok (.setm { tb := 2, rb := 19, ta := true, ra := 2, cond := 2, vmt := 1 }) ∧
    decode 0x705388182#36 = .ok (.vsllv { tb := 2, rb := 19, ta := true, ra := 2, tt := false, rt := 1, v := true }) ∧
    decode 0x725388182#36 = .ok (.vsrlv { tb := 2, rb := 19, ta := true, ra := 2, tt := false, rt := 1, v := true }) ∧
    decode 0x745388182#36 = .ok (.vex { tb := 2, rb := 19, ta := true, ra := 2, tt := false, rt := 1, v := true }) ∧
    decode 0x765388182#36 = .ok (.veins { tb := 2, rb := 19, ta := true, ra := 2, tt := false, rt := 1, v := true }) ∧
    decode 0x7C5388182#36 = .ok (.rdCoeff { tb := 2, rb := 19, ta := true, ra := 2, tt := false, rt := 1, v := true }) ∧
    decode 0x7E5388182#36 = .ok (.wrCoeff { tb := 2, rb := 19, ta := true, ra := 2, tt := false, rt := 1, v := true }) := by
  decide

theorem test_decode_three_and_four_source :
    decode 0x085388183#36 = .ok (.mux { tb := 2, rb := 19, ta := true, ra := 2, tt := false, rt := 1, v := true }) ∧
    decode 0x205388183#36 = .ok (.sllp { tb := 2, rb := 19, ta := true, ra := 2, tt := false, rt := 1, v := true }) ∧
    decode 0x222B88183#36 = .ok (.sllpi { imm6 := 43, ta := true, ra := 2, tt := false, rt := 1, v := true }) ∧
    decode 0x305388183#36 = .ok (.ptrdif { tb := 2, rb := 19, ta := true, ra := 2, tt := false, rt := 1, v := true }) ∧
    decode 0x445388283#36 = .ok (.chkR { tb := 2, rb := 19, ta := true, ra := 2, cn := 2, v := true }) ∧
    decode 0x605388183#36 = .ok (.blend { tb := 2, rb := 19, ta := true, ra := 2, tt := false, rt := 1, v := true }) ∧
    decode 0x06538819C#36 = .ok (.dep { tb := 2, rb := 19, ta := true, ra := 2, tt := false, rt := 1, v := true }) ∧
    decode 0x08538819C#36 = .ok (.ext { tb := 2, rb := 19, ta := true, ra := 2, tt := false, rt := 1, v := true }) ∧
    decode 0x0A538819C#36 = .ok (.extu { tb := 2, rb := 19, ta := true, ra := 2, tt := false, rt := 1, v := true }) ∧
    decode 0x0C538819C#36 = .ok (.ffo { tb := 2, rb := 19, ta := true, ra := 2, tt := false, rt := 1, v := true }) := by
  decide

theorem test_decode_immediate_1 :
    decode 0x9ABC88184#36 = .ok (.addI { imm16 := 39612, ta := true, ra := 2, tt := false, rt := 1, v := true }) ∧
    decode 0x9ABC88185#36 = .ok (.subf { imm16 := 39612, ta := true, ra := 2, tt := false, rt := 1, v := true }) ∧
    decode 0x9ABC88186#36 = .ok (.mulI { imm16 := 39612, ta := true, ra := 2, tt := false, rt := 1, v := true }) ∧
    decode 0x9ABC88188#36 = .ok (.andI { imm16 := 39612, ta := true, ra := 2, tt := false, rt := 1, v := true }) ∧
    decode 0x9ABC88189#36 = .ok (.orI { imm16 := 39612, ta := true, ra := 2, tt := false, rt := 1, v := true }) ∧
    decode 0x9ABC8818A#36 = .ok (.xorI { imm16 := 39612, ta := true, ra := 2, tt := false, rt := 1, v := true }) ∧
    decode 0x9ABC8818E#36 = .ok (.muluI { imm16 := 39612, ta := true, ra := 2, tt := false, rt := 1, v := true }) ∧
    decode 0x9ABC88190#36 = .ok (.divI { imm16 := 39612, ta := true, ra := 2, tt := false, rt := 1, v := true }) ∧
    decode 0x9ABC88191#36 = .ok (.divuI { imm16 := 39612, ta := true, ra := 2, tt := false, rt := 1, v := true }) ∧
    decode 0x9ABC88195#36 = .ok (.mulfI { imm16 := 39612, ta := true, ra := 2, tt := false, rt := 1, v := true }) ∧
    decode 0x9ABC88197#36 = .ok (.permI { imm16 := 39612, ta := true, ra := 2, tt := false, rt := 1, v := true }) ∧
    decode 0x9ABC88198#36 = .ok (.remI { imm16 := 39612, ta := true, ra := 2, tt := false, rt := 1, v := true }) ∧
    decode 0x9ABC88199#36 = .ok (.remuI { imm16 := 39612, ta := true, ra := 2, tt := false, rt := 1, v := true }) ∧
    decode 0x9ABC8819B#36 = .ok (.wydndxI { imm16 := 39612, ta := true, ra := 2, tt := false, rt := 1, v := true }) ∧
    decode 0x9ABC881A1#36 = .ok (.divr { imm16 := 39612, ta := true, ra := 2, tt := false, rt := 1, v := true }) ∧
    decode 0x9ABC881A3#36 = .ok (.u21ndxI { imm16 := 39612, ta := true, ra := 2, tt := false, rt := 1, v := true }) := by
  decide

theorem test_decode_immediate_2 :
    decode 0x9ABC881A6#36 = .ok (.seqI { imm16 := 39612, ta := true, ra := 2, tt := false, rt := 1, v := true }) ∧
    decode 0x9ABC881A7#36 = .ok (.sneI { imm16 := 39612, ta := true, ra := 2, tt := false, rt := 1, v := true }) ∧
    decode 0x9ABC881A8#36 = .ok (.sltI { imm16 := 39612, ta := true, ra := 2, tt := false, rt := 1, v := true }) ∧
    decode 0x9ABC881A9#36 = .ok (.sgtI { imm16 := 39612, ta := true, ra := 2, tt := false, rt := 1, v := true }) ∧
    decode 0x9ABC881AA#36 = .ok (.sltuI { imm16 := 39612, ta := true, ra := 2, tt := false, rt := 1, v := true }) ∧
    decode 0x9ABC881AB#36 = .ok (.sgtuI { imm16 := 39612, ta := true, ra := 2, tt := false, rt := 1, v := true }) ∧
    decode 0x9ABC882A2#36 = .ok (.chkI { imm16 := 39612, ta := true, ra := 2, cn := 2, v := true }) ∧
    decode 0x014E1219A#36 = .ok (.bytndxR { tb := 2, rb := 19, ta2 := 2, ra := 2, tt2 := 1, rt := 1, v := true }) ∧
    decode 0x1A961219A#36 = .ok (.bytndxI { imm10 := 677, ta2 := 2, ra := 2, tt2 := 1, rt := 1, v := true }) := by
  decide

theorem test_decode_float_1 :
    decode 0x400B881B0#36 = .ok (.dfabs { m3 := 5, z := true, ta := true, ra := 2, tt := false, rt := 1, v := true }) ∧
    decode 0x000B881B4#36 = .ok (.fmov { m3 := 5, z := true, ta := true, ra := 2, tt := false, rt := 1, v := true }) ∧
    decode 0x100B881B4#36 = .ok (.fsqrt { m3 := 5, z := true, ta := true, ra := 2, tt := false, rt := 1, v := true }) ∧
    decode 0x400B881B4#36 = .ok (.fabs { m3 := 5, z := true, ta := true, ra := 2, tt := false, rt := 1, v := true }) ∧
    decode 0x420B881B4#36 = .ok (.fnabs { m3 := 5, z := true, ta := true, ra := 2, tt := false, rt := 1, v := true }) ∧
    decode 0x440B881B4#36 = .ok (.fneg { m3 := 5, z := true, ta := true, ra := 2, tt := false, rt := 1, v := true }) ∧
    decode 0x0453881B5#36 = .ok (.fmin { tb := 2, rb := 19, ta := true, ra := 2, tt := false, rt := 1, v := true }) ∧
    decode 0x0653881B5#36 = .ok (.fmax { tb := 2, rb := 19, ta := true, ra := 2, tt := false, rt := 1, v := true }) ∧
    decode 0x0853881B5#36 = .ok (.fadd { tb := 2, rb := 19, ta := true, ra := 2, tt := false, rt := 1, v := true }) ∧
    decode 0x0A53881B5#36 = .ok (.fsub { tb := 2, rb := 19, ta := true, ra := 2, tt := false, rt := 1, v := true }) ∧
    decode 0x1053881B5#36 = .ok (.fmul { tb := 2, rb := 19, ta := true, ra := 2, tt := false, rt := 1, v := true }) ∧
    decode 0x1253881B5#36 = .ok (.fdiv { tb := 2, rb := 19, ta := true, ra := 2, tt := false, rt := 1, v := true }) ∧
    decode 0x2053881B5#36 = .ok (.fcmp { tb := 2, rb := 19, ta := true, ra := 2, tt := false, rt := 1, v := true }) ∧
    decode 0x2253881B5#36 = .ok (.fseq { tb := 2, rb := 19, ta := true, ra := 2, tt := false, rt := 1, v := true }) ∧
    decode 0x2453881B5#36 = .ok (.fslt { tb := 2, rb := 19, ta := true, ra := 2, tt := false, rt := 1, v := true }) ∧
    decode 0x2653881B5#36 = .ok (.fsle { tb := 2, rb := 19, ta := true, ra := 2, tt := false, rt := 1, v := true }) := by
  decide

theorem test_decode_float_2 :
    decode 0x2853881B5#36 = .ok (.fsne { tb := 2, rb := 19, ta := true, ra := 2, tt := false, rt := 1, v := true }) ∧
    decode 0x2A53881B5#36 = .ok (.fcmpb { tb := 2, rb := 19, ta := true, ra := 2, tt := false, rt := 1, v := true }) ∧
    decode 0x2C53891B5#36 = .ok (.fsetm { tb := 2, rb := 19, ta := true, ra := 2, cond := 2, vmt := 1 }) ∧
    decode 0x0053881B7#36 = .ok (.fdp { tb := 2, rb := 19, ta := true, ra := 2, tt := false, rt := 1, v := true }) := by
  decide

theorem test_decode_mask_1 :
    decode 0x00141013E#36 = .ok (.mand { vmb := 5, vma := 2, vmt := 1 }) ∧
    decode 0x02141013E#36 = .ok (.morM { vmb := 5, vma := 2, vmt := 1 }) ∧
    decode 0x04141013E#36 = .ok (.mxorM { vmb := 5, vma := 2, vmt := 1 }) ∧
    decode 0x08141013E#36 = .ok (.madd { vmb := 5, vma := 2, vmt := 1 }) ∧
    decode 0x0A141013E#36 = .ok (.msub { vmb := 5, vma := 2, vmt := 1 }) ∧
    decode 0x0CAC1013E#36 = .ok (.msll { imm6 := 43, vma := 2, vmt := 1 }) ∧
    decode 0x0EAC1013E#36 = .ok (.msrl { imm6 := 43, vma := 2, vmt := 1 }) ∧
    decode 0x10141013E#36 = .ok (.mnand { vmb := 5, vma := 2, vmt := 1 }) ∧
    decode 0x12141013E#36 = .ok (.mnor { vmb := 5, vma := 2, vmt := 1 }) ∧
    decode 0x14141013E#36 = .ok (.mxnor { vmb := 5, vma := 2, vmt := 1 }) ∧
    decode 0x18021013E#36 = .ok (.mfill { ta2 := 2, ra := 2, vmt := 1 }) ∧
    decode 0x1A003213E#36 = .ok (.mpop { vm := 6, tt2 := 1, rt := 1 }) ∧
    decode 0x1C003213E#36 = .ok (.mfirst { vm := 6, tt2 := 1, rt := 1 }) ∧
    decode 0x1E003213E#36 = .ok (.mlast { vm := 6, tt2 := 1, rt := 1 }) ∧
    decode 0x20021013E#36 = .ok (.mtm { ta2 := 2, ra := 2, vmt := 1 }) ∧
    decode 0x22003213E#36 = .ok (.mfm { vm := 6, tt2 := 1, rt := 1 }) := by
  decide

theorem test_decode_mask_2 :
    decode 0x24021003E#36 = .ok (.mtvl { ta2 := 2, ra := 2 }) ∧
    decode 0x26000213E#36 = .ok (.mfvl { tt2 := 1, rt := 1 }) := by
  decide

theorem test_decode_flow :
    decode 0xAAD38AB48#36 = .ok (.blt { disp15 := 21867, tb := 2, rb := 19, ta := true, ra := 2 }) ∧
    decode 0xAAD38AB49#36 = .ok (.bge { disp15 := 21867, tb := 2, rb := 19, ta := true, ra := 2 }) ∧
    decode 0xAAD38AB4A#36 = .ok (.bltu { disp15 := 21867, tb := 2, rb := 19, ta := true, ra := 2 }) ∧
    decode 0xAAD38AB4B#36 = .ok (.bgeu { disp15 := 21867, tb := 2, rb := 19, ta := true, ra := 2 }) ∧
    decode 0xAAD38AB4D#36 = .ok (.bbs { disp15 := 21867, tb := 2, rb := 19, ta := true, ra := 2 }) ∧
    decode 0xAAD38AB4E#36 = .ok (.beq { disp15 := 21867, tb := 2, rb := 19, ta := true, ra := 2 }) ∧
    decode 0xAAD38AB4F#36 = .ok (.bne { disp15 := 21867, tb := 2, rb := 19, ta := true, ra := 2 }) ∧
    decode 0x0000000CB#36 = .ok (.vectorBranch 3) ∧
    decode 0xAAF379678#36 = .ok (.jal 44813797 2) ∧
    decode 0xAAF379478#36 = .ok (.jmp 44813797) ∧
    decode 0xAAF379679#36 = .ok (.bal 44813797 2) ∧
    decode 0xAAF379479#36 = .ok (.bra 44813797) ∧
    decode 0xAAF379579#36 = .ok (.bsr 44813797) ∧
    decode 0xAAF214E7A#36 = .ok (.jalr { c14 := 10940, ta2 := 2, ra := 2, cnst5 := 19, rt2 := 2 }) ∧
    decode 0x00000807A#36 = .ok .ret := by
  decide

theorem test_decode_modifier :
    decode 0xABCDEF550#36 = .ok (.exi0 180150005) ∧
    decode 0xABCDEF551#36 = .ok (.exi1 180150005) ∧
    decode 0xABCDEF552#36 = .ok (.exi2 180150005) ∧
    decode 0x05C912B58#36 = .ok (.imod { rm := 5, tc := 2, rc := 4, td := 2, rd := 9, a := 2, m3 := 5, z := true }) ∧
    decode 0x05C912B59#36 = .ok (.btfld { rm := 5, tc := 2, rc := 4, td := 2, rd := 9, a := 2, m3 := 5, z := true }) ∧
    decode 0xB4B69015A#36 = .ok (.brmod { c15 := 23131, tc := 1, rc := 4, tt := false, rt := 1 }) ∧
    decode 0xAAF122B5C#36 = .ok (.stride { c14 := 10940, tc := 1, rc := 4, a := 2, m3 := 5, z := true }) := by
  decide

theorem test_decode_load_1 :
    decode 0x5ABC88160#36 = .ok (.ldx 5 { disp12 := 2748, ta := true, ra := 2, tt := false, rt := 1 }) ∧
    decode 0x5ABC88164#36 = .ok (.ldxZ 5 { disp12 := 2748, ta := true, ra := 2, tt := false, rt := 1 }) ∧
    decode 0x50D388161#36 = .ok (.ldxX 5 { sc := 1, tb := 2, rb := 19, ta := true, ra := 2, tt := false, rt := 1 }) ∧
    decode 0x50D388165#36 = .ok (.ldxXZ 5 { sc := 1, tb := 2, rb := 19, ta := true, ra := 2, tt := false, rt := 1 }) ∧
    decode 0x0ABC88160#36 = .ok (.ldb { disp12 := 2748, ta := true, ra := 2, tt := false, rt := 1 }) ∧
    decode 0x00D388161#36 = .ok (.ldbx { sc := 1, tb := 2, rb := 19, ta := true, ra := 2, tt := false, rt := 1 }) ∧
    decode 0x0ABC88164#36 = .ok (.ldbz { disp12 := 2748, ta := true, ra := 2, tt := false, rt := 1 }) ∧
    decode 0x00D388165#36 = .ok (.ldbxz { sc := 1, tb := 2, rb := 19, ta := true, ra := 2, tt := false, rt := 1 }) ∧
    decode 0x1ABC88160#36 = .ok (.ldw { disp12 := 2748, ta := true, ra := 2, tt := false, rt := 1 }) ∧
    decode 0x10D388161#36 = .ok (.ldwx { sc := 1, tb := 2, rb := 19, ta := true, ra := 2, tt := false, rt := 1 }) ∧
    decode 0x1ABC88164#36 = .ok (.ldwz { disp12 := 2748, ta := true, ra := 2, tt := false, rt := 1 }) ∧
    decode 0x10D388165#36 = .ok (.ldwxz { sc := 1, tb := 2, rb := 19, ta := true, ra := 2, tt := false, rt := 1 }) ∧
    decode 0x2ABC88160#36 = .ok (.ldt { disp12 := 2748, ta := true, ra := 2, tt := false, rt := 1 }) ∧
    decode 0x20D388161#36 = .ok (.ldtx { sc := 1, tb := 2, rb := 19, ta := true, ra := 2, tt := false, rt := 1 }) ∧
    decode 0x2ABC88164#36 = .ok (.ldtz { disp12 := 2748, ta := true, ra := 2, tt := false, rt := 1 }) ∧
    decode 0x20D388165#36 = .ok (.ldtxz { sc := 1, tb := 2, rb := 19, ta := true, ra := 2, tt := false, rt := 1 }) := by
  decide

theorem test_decode_load_2 :
    decode 0x3ABC88160#36 = .ok (.ldo { disp12 := 2748, ta := true, ra := 2, tt := false, rt := 1 }) ∧
    decode 0x30D388161#36 = .ok (.ldox { sc := 1, tb := 2, rb := 19, ta := true, ra := 2, tt := false, rt := 1 }) ∧
    decode 0x3ABC88164#36 = .ok (.ldoz { disp12 := 2748, ta := true, ra := 2, tt := false, rt := 1 }) ∧
    decode 0x30D388165#36 = .ok (.ldoxz { sc := 1, tb := 2, rb := 19, ta := true, ra := 2, tt := false, rt := 1 }) ∧
    decode 0xFABC89A60#36 = .ok (.cache { disp12 := 2748, ta := true, ra := 2, dc3 := 3, ic3 := 2 }) := by
  decide

theorem test_decode_store :
    decode 0x5AD38AB70#36 = .ok (.stx 5 { disp11 := 1387, tb := 2, rb := 19, ta := true, ra := 2 }) ∧
    decode 0x50D388071#36 = .ok (.stxX 5 { sc := 1, tb := 2, rb := 19, ta := true, ra := 2 }) ∧
    decode 0x0AD38AB70#36 = .ok (.stb { disp11 := 1387, tb := 2, rb := 19, ta := true, ra := 2 }) ∧
    decode 0x00D388071#36 = .ok (.stbx { sc := 1, tb := 2, rb := 19, ta := true, ra := 2 }) ∧
    decode 0x1AD38AB70#36 = .ok (.stw { disp11 := 1387, tb := 2, rb := 19, ta := true, ra := 2 }) ∧
    decode 0x10D388071#36 = .ok (.stwx { sc := 1, tb := 2, rb := 19, ta := true, ra := 2 }) ∧
    decode 0x2AD38AB70#36 = .ok (.stt { disp11 := 1387, tb := 2, rb := 19, ta := true, ra := 2 }) ∧
    decode 0x20D388071#36 = .ok (.sttx { sc := 1, tb := 2, rb := 19, ta := true, ra := 2 }) ∧
    decode 0x3AD38AB70#36 = .ok (.sto { disp11 := 1387, tb := 2, rb := 19, ta := true, ra := 2 }) ∧
    decode 0x30D388071#36 = .ok (.stox { sc := 1, tb := 2, rb := 19, ta := true, ra := 2 }) ∧
    decode 0x7AD38AB70#36 = .ok (.stptr { disp11 := 1387, tb := 2, rb := 19, ta := true, ra := 2 }) ∧
    decode 0x70D388071#36 = .ok (.stptrx { sc := 1, tb := 2, rb := 19, ta := true, ra := 2 }) := by
  decide

theorem test_decode_vector_memory :
    decode 0x5ABC881E2#36 = .ok (.lds 5 { disp12 := 2748, ta := true, ra := 2, tt := false, rt := 1 }) ∧
    decode 0x5ABC881E3#36 = .ok (.ldVX 5 { disp12 := 2748, ta := true, ra := 2, tt := false, rt := 1 }) ∧
    decode 0x5ABC881E6#36 = .ok (.cvlds 5 { disp12 := 2748, ta := true, ra := 2, tt := false, rt := 1 }) ∧
    decode 0x5ABC881E7#36 = .ok (.cvldVX 5 { disp12 := 2748, ta := true, ra := 2, tt := false, rt := 1 }) ∧
    decode 0x5AD38ABF2#36 = .ok (.sts 5 { disp11 := 1387, tb := 2, rb := 19, ta := true, ra := 2 }) ∧
    decode 0x5AD38ABF3#36 = .ok (.stVX 5 { disp11 := 1387, tb := 2, rb := 19, ta := true, ra := 2 }) ∧
    decode 0x5AD38ABF6#36 = .ok (.cvsts 5 { disp11 := 1387, tb := 2, rb := 19, ta := true, ra := 2 }) ∧
    decode 0x5AD38ABF7#36 = .ok (.cvstVX 5 { disp11 := 1387, tb := 2, rb := 19, ta := true, ra := 2 }) := by
  decide

theorem test_decode_system_1 :
    decode 0x000528000#36 = .ok (.brk 165) ∧
    decode 0xAAF21010F#36 = .ok (.csrr { regno := 10940, ta2 := 2, ra := 2, rt := 1 }) ∧
    decode 0xAAF21210F#36 = .ok (.csrw { regno := 10940, ta2 := 2, ra := 2, rt := 1 }) ∧
    decode 0xAAF21410F#36 = .ok (.csrs { regno := 10940, ta2 := 2, ra := 2, rt := 1 }) ∧
    decode 0xAAF21610F#36 = .ok (.csrc { regno := 10940, ta2 := 2, ra := 2, rt := 1 }) ∧
    decode 0x0000000BF#36 = .ok (.nop true) ∧
    decode 0x102348007#36 = .ok (.push { rb6 := 35, ra6 := 18, rt6 := 0 }) ∧
    decode 0x12004B107#36 = .ok (.pop { rb6 := 0, ra6 := 18, rt6 := 49 }) ∧
    decode 0x14004B107#36 = .ok (.peek { rb6 := 0, ra6 := 18, rt6 := 49 }) ∧
    decode 0x16004B107#36 = .ok (.stat { rb6 := 0, ra6 := 18, rt6 := 49 }) ∧
    decode 0x182A48007#36 = .ok (.pushi { rb6 := 42, ra6 := 18, rt6 := 0 }) ∧
    decode 0x1A00AB107#36 = .ok (.popi { rb6 := 0, ra6 := 42, rt6 := 49 }) ∧
    decode 0x1C00AB107#36 = .ok (.peeki { rb6 := 0, ra6 := 42, rt6 := 49 }) ∧
    decode 0x1E00AB107#36 = .ok (.stati { rb6 := 0, ra6 := 42, rt6 := 49 }) ∧
    decode 0x200014007#36 = .ok (.rex { rb6 := 0, ra6 := 5, rt6 := 0 }) ∧
    decode 0x26234AA07#36 = .ok (.rte { rb6 := 35, ra6 := 18, rt6 := 42 }) := by
  decide

theorem test_decode_system_2 :
    decode 0x3C234B107#36 = .ok (.tlbrw { rb6 := 35, ra6 := 18, rt6 := 49 }) ∧
    decode 0x600204307#36 = .ok (.sysOther 48 { rb6 := 2, ra6 := 1, rt6 := 3 }) ∧
    decode 0x220000007#36 = .ok .pfi ∧
    decode 0x240000007#36 = .ok .wfi ∧
    decode 0x3E0000007#36 = .ok .sync := by
  decide

theorem test_decode_named_1 :
    decode 0x160B88181#36 = .ok .tst ∧
    decode 0x200B88181#36 = .ok .ptrinc ∧
    decode 0x220B88181#36 = .ok .transform ∧
    decode 0x1E5388182#36 = .ok .mulh ∧
    decode 0x245388182#36 = .ok .divsuR ∧
    decode 0x2A5388182#36 = .ok .remsuR ∧
    decode 0x2C5388182#36 = .ok .mulsuR ∧
    decode 0x3A5388182#36 = .ok .mulsuh ∧
    decode 0x3C5388182#36 = .ok .muluh ∧
    decode 0x3E5388182#36 = .ok .rgf ∧
    decode 0x645388182#36 = .ok .mort ∧
    decode 0x665388182#36 = .ok .mxort ∧
    decode 0x9ABC88192#36 = .ok .divsuI ∧
    decode 0x9ABC88196#36 = .ok .mulsuI ∧
    decode 0x9ABC881A0#36 = .ok .remsuI ∧
    decode 0x9ABC88124#36 = .ok .sand := by
  decide

theorem test_decode_named_2 :
    decode 0x9ABC88125#36 = .ok .sor ∧
    decode 0x00000008D#36 = .ok .setGroup ∧
    decode 0x0000000B0#36 = .ok .df1 ∧
    decode 0x0000000B1#36 = .ok .df2 ∧
    decode 0x0000000B8#36 = .ok .pst1 ∧
    decode 0x0000000B9#36 = .ok .pst2 ∧
    decode 0x0000000B2#36 = .ok .df3 ∧
    decode 0x0000000B3#36 = .ok .df4 ∧
    decode 0x0000000BA#36 = .ok .pst3 ∧
    decode 0x0000000BB#36 = .ok .pst4 ∧
    decode 0x020B881B4#36 = .ok .frsqrte ∧
    decode 0x040B881B4#36 = .ok .ftoi ∧
    decode 0x060B881B4#36 = .ok .itof ∧
    decode 0x0C0B881B4#36 = .ok .fsign ∧
    decode 0x0E0B881B4#36 = .ok .fman ∧
    decode 0x120B881B4#36 = .ok .fs2d := by
  decide

theorem test_decode_named_3 :
    decode 0x140B881B4#36 = .ok .fs2q ∧
    decode 0x160B881B4#36 = .ok .fd2q ∧
    decode 0x180B881B4#36 = .ok .fstat ∧
    decode 0x1C0B881B4#36 = .ok .isnan ∧
    decode 0x1E0B881B4#36 = .ok .finite ∧
    decode 0x200B881B4#36 = .ok .ftx ∧
    decode 0x220B881B4#36 = .ok .fcx ∧
    decode 0x240B881B4#36 = .ok .fex ∧
    decode 0x260B881B4#36 = .ok .fdx ∧
    decode 0x280B881B4#36 = .ok .frm ∧
    decode 0x2A0B881B4#36 = .ok .trunc ∧
    decode 0x2C0B881B4#36 = .ok .fsync ∧
    decode 0x2E0B881B4#36 = .ok .fres ∧
    decode 0x300B881B4#36 = .ok .fsigmoid ∧
    decode 0x320B881B4#36 = .ok .fd2s ∧
    decode 0x340B881B4#36 = .ok .fq2s := by
  decide

theorem test_decode_named_4 :
    decode 0x360B881B4#36 = .ok .fq2d ∧
    decode 0x3C0B881B4#36 = .ok .fclass1 ∧
    decode 0x3E0B881B4#36 = .ok .unord ∧
    decode 0x0053881B5#36 = .ok .scaleb ∧
    decode 0x1453881B5#36 = .ok .frem ∧
    decode 0x1653881B5#36 = .ok .fnxt ∧
    decode 0x1853881B5#36 = .ok .fandB ∧
    decode 0x1A53881B5#36 = .ok .forB ∧
    decode 0x3053881B5#36 = .ok .cpysgn ∧
    decode 0x3253881B5#36 = .ok .sgninv ∧
    decode 0x3453881B5#36 = .ok .sgnand ∧
    decode 0x3653881B5#36 = .ok .sgnor ∧
    decode 0x3853881B5#36 = .ok .sgnxor ∧
    decode 0x3A53881B5#36 = .ok .sgnxnor ∧
    decode 0x3C53881B5#36 = .ok .fclass2 ∧
    decode 0x0053881B6#36 = .ok .fma := by
  decide

theorem test_decode_named_5 :
    decode 0x0253881B6#36 = .ok .fms ∧
    decode 0x0453881B6#36 = .ok .fnma ∧
    decode 0x0653881B6#36 = .ok .fnms ∧
    decode 0xAAD38AB40#36 = .ok .fblt ∧
    decode 0xAAD38AB41#36 = .ok .fbge ∧
    decode 0xAAD38AB42#36 = .ok .dfblt ∧
    decode 0xAAD38AB43#36 = .ok .dfbge ∧
    decode 0xAAD38AB46#36 = .ok .fbeq ∧
    decode 0xAAD38AB47#36 = .ok .fbne ∧
    decode 0xABCDEF553#36 = .ok .exi3 ∧
    decode 0xABCDEF554#36 = .ok .exi4 ∧
    decode 0x00000005B#36 = .ok .unnamed5B ∧
    decode 0x0000000D8#36 = .ok .vectorHalf ∧
    decode 0x00000006F#36 = .ok .lsm ∧
    decode 0x00234B107#36 = .ok .llal ∧
    decode 0x02234B107#36 = .ok .llah := by
  decide

theorem test_decode_named_6 :
    decode 0x08234B107#36 = .ok .lpal ∧
    decode 0x0A234B107#36 = .ok .lpah ∧
    decode 0x28234B107#36 = .ok .setkey ∧
    decode 0x30234B107#36 = .ok .setto ∧
    decode 0x32234B107#36 = .ok .getto ∧
    decode 0x34234B107#36 = .ok .getzl ∧
    decode 0x3A234B107#36 = .ok .mvseg := by
  decide

/-! ## Test vectors -/

/-- Vectors T1 to T11 of spec/95_test_vectors.md, those with a stated result. -/
theorem test_add_and_logic :
    x1After 1 0xFFFF08104 [(2, 0x0)] = some (0xFFFFFFFFFFFFFFFF, 9) ∧
    x1After 1 0x7FFF08104 [(2, 0xFFFFFFFFFFFFFFFF)] = some (0x7FFE, 9) ∧
    x1After 1 0x080308102 [(2, 0x7), (3, 0x8)] = some (0xF, 9) ∧
    x1After 1 0x087D08102 [(2, 0xA)] = some (0x7, 9) ∧
    x1After 1 0x0A0308102 [(2, 0x3), (3, 0x5)] = some (0xFFFFFFFFFFFFFFFE, 9) ∧
    x1After 1 0x000A08105 [(2, 0x3)] = some (0x7, 9) ∧
    x1After 1 0x00FF08108 [(2, 0x123456789ABCDEF0)] = some (0x123456789ABC00F0, 9) ∧
    x1After 1 0x000308102 [(2, 0xFF00), (3, 0xFF0)] = some (0xF00, 9) ∧
    x1After 1 0x00FF08109 [(2, 0xF000)] = some (0xF0FF, 9) ∧
    x1After 1 0x800008109 [(2, 0x0)] = some (0x8000, 9) := by
  decide

/-- Vectors T12 to T17 of spec/95_test_vectors.md, those with a stated result. -/
theorem test_logic :
    x1After 1 0x020308102 [(2, 0xF0), (3, 0xF)] = some (0xFF, 9) ∧
    x1After 1 0x000F0810A [(2, 0xFF)] = some (0xF0, 9) ∧
    x1After 1 0x040308102 [(2, 0xFF), (3, 0xFF)] = some (0x0, 9) ∧
    x1After 1 0x100308102 [(2, 0xFF), (3, 0xF)] = some (0xFFFFFFFFFFFFFFF0, 9) ∧
    x1After 1 0x120308102 [(2, 0xF0), (3, 0xF)] = some (0xFFFFFFFFFFFFFF00, 9) ∧
    x1After 1 0x140308102 [(2, 0xFF), (3, 0xF)] = some (0xFFFFFFFFFFFFFF0F, 9) := by
  decide

/-- Vectors T18 to T29 of spec/95_test_vectors.md, those with a stated result. -/
theorem test_multiply_and_divide :
    x1After 1 0xFFFE08106 [(2, 0x3)] = some (0xFFFFFFFFFFFFFFFA, 9) ∧
    x1After 1 0x0C0308102 [(2, 0x100000000), (3, 0x100000000)] = some (0x0, 9) ∧
    x1After 1 0xFFFF0810E [(2, 0x2)] = some (0x1FFFE, 9) ∧
    x1After 1 0x380308102 [(2, 0xFFFFFFFFFF000003), (3, 0x10005)] = some (0xF, 9) ∧
    x1After 1 0x1A0308102 [(2, 0xFFFFFFFFFF000003), (3, 0x10005)] = some (0xF, 9) ∧
    x1After 1 0x200308102 [(2, 0xFFFFFFFFFFFFFFF9), (3, 0x2)] = some (0xFFFFFFFFFFFFFFFD, 9) ∧
    x1After 1 0x000708110 [(2, 0x64)] = some (0xE, 9) ∧
    x1After 1 0x220308102 [(2, 0xFFFFFFFFFFFFFFFE), (3, 0x2)] = some (0x7FFFFFFFFFFFFFFF, 9) ∧
    x1After 1 0x006408121 [(2, 0x4)] = some (0x19, 9) ∧
    x1After 1 0x260308102 [(2, 0xFFFFFFFFFFFFFFF9), (3, 0x2)] = some (0xFFFFFFFFFFFFFFFF, 9) ∧
    x1After 1 0x280308102 [(2, 0x7), (3, 0x4)] = some (0x3, 9) := by
  decide

/-- Vectors T30 to T39 of spec/95_test_vectors.md, those with a stated result. -/
theorem test_compare_and_distance :
    x1After 1 0x400308102 [(2, 0xFFFFFFFFFFFFFFFF), (3, 0x1)] = some (0xFFFFFFFFFFFFFFFF, 9) ∧
    x1After 1 0x400308102 [(2, 0x9), (3, 0x9)] = some (0x0, 9) ∧
    x1After 1 0x400008102 [(2, 0x8000000000000000)] = some (0xFFFFFFFFFFFFFFFF, 9) ∧
    x1After 1 0x300308102 [(2, 0x3), (3, 0xA)] = some (0x7, 9) ∧
    x1After 1 0x500308102 [(2, 0xFFFFFFFFFFFFFFFF), (3, 0x1)] = some (0xFFFFFFFFFFFFFFFF, 9) ∧
    x1After 1 0x520308102 [(2, 0xFFFFFFFFFFFFFFFF), (3, 0x1)] = some (0x1, 9) ∧
    x1After 1 0x0C0008101 [(2, 0xFFFFFFFFFFFFFFFB)] = some (0x5, 9) ∧
    x1After 1 0x0C0008101 [(2, 0x8000000000000000)] = some (0x8000000000000000, 9) ∧
    x1After 1 0x0E0008101 [(2, 0x5)] = some (0xFFFFFFFFFFFFFFFB, 9) ∧
    x1After 1 0x0A0008101 [(2, 0x1)] = some (0xFFFFFFFFFFFFFFFF, 9) := by
  decide

/-- Vectors T40 to T53 of spec/95_test_vectors.md, those with a stated result. -/
theorem test_count_and_extend :
    x1After 1 0x080008101 [(2, 0x80)] = some (0x0, 9) ∧
    x1After 1 0x080008101 [(2, 0x0)] = some (0x1, 9) ∧
    x1After 1 0x060008101 [(2, 0x0)] = some (0xFFFFFFFFFFFFFFFF, 9) ∧
    x1After 1 0x000008101 [(2, 0x1)] = some (0x3F, 9) ∧
    x1After 1 0x000008101 [(2, 0x0)] = some (0x40, 9) ∧
    x1After 1 0x020008101 [(2, 0xFF00000000000000)] = some (0x8, 9) ∧
    x1After 1 0x040008101 [(2, 0xFF00FF)] = some (0x10, 9) ∧
    x1After 1 0x100008101 [(2, 0x11)] = some (0x4, 9) ∧
    x1After 1 0x180008101 [(2, 0xFFFFFFFFFFFFFF80)] = some (0x80, 9) ∧
    x1After 1 0x1A0008101 [(2, 0xFFFFFFFFFFFF8000)] = some (0x8000, 9) ∧
    x1After 1 0x1C0008101 [(2, 0xFFFFFFFF80000000)] = some (0x80000000, 9) ∧
    x1After 1 0x280008101 [(2, 0x80)] = some (0xFFFFFFFFFFFFFF80, 9) ∧
    x1After 1 0x2A0008101 [(2, 0x8000)] = some (0xFFFFFFFFFFFF8000, 9) ∧
    x1After 1 0x2C0008101 [(2, 0x80000000)] = some (0xFFFFFFFF80000000, 9) := by
  decide

/-- Vectors T54 to T59 of spec/95_test_vectors.md, those with a stated result. -/
theorem test_shift :
    x1After 1 0x320308102 [(2, 0x1), (3, 0x44)] = some (0x10, 9) ∧
    x1After 1 0x343F08102 [(2, 0x1)] = some (0x8000000000000000, 9) ∧
    x1After 1 0x420308102 [(2, 0x8000000000000000), (3, 0x4)] = some (0x800000000000000, 9) ∧
    x1After 1 0x443F08102 [(2, 0x8000000000000000)] = some (0x1, 9) ∧
    x1After 2 0x200308103000010058 [(2, 0x8000000000000001), (4, 0x8000000000000001), (3, 0x4)] = some (0x18, 18) ∧
    x1After 2 0x220408103000010058 [(2, 0x1), (4, 0xF000000000000000)] = some (0x1F, 18) := by
  decide

/-- Vectors T60 to T69 of spec/95_test_vectors.md, those with a stated result. -/
theorem test_field :
    x1After 2 0x0A030811C00FF04059 [(2, 0x1), (3, 0x1)] = some (0x8000000000000000, 18) ∧
    x1After 2 0x08030811C00FF10059 [(2, 0x8000000000000000), (3, 0xFFFFFFFFFFFFFFFF)] = some (0xF800000000000000, 18) ∧
    x1After 2 0x08000811C00FF10059 [(2, 0x8000000000000000)] = some (0x800000000000000, 18) ∧
    x1After 2 0x06030811C00C720059 [(2, 0xFFFFFFFFFFFFFFFF), (3, 0x0)] = some (0xFFFFFFFFFFFF00FF, 18) ∧
    x1After 2 0x06030011C00FF10059 [(3, 0xF00000000000000F)] = some (0xF0, 18) ∧
    x1After 2 0x08000811C00C720059 [(2, 0x8F00)] = some (0xFFFFFFFFFFFFFF8F, 18) ∧
    x1After 2 0x0A000811C00C720059 [(2, 0x8F00)] = some (0x8F, 18) ∧
    x1After 2 0x0A030811C00C7F0059 [(2, 0xA000000000000000), (3, 0x5)] = some (0x5A, 18) ∧
    x1After 2 0x0C000811C00C720059 [(2, 0x1200)] = some (0x4, 18) ∧
    x1After 2 0x0C000811C00C720059 [(2, 0xFF)] = some (0xFFFFFFFFFFFFFFFF, 18) := by
  decide

/-- Vectors T70 to T76 of spec/95_test_vectors.md, those with a stated result. -/
theorem test_mux_and_search :
    x1After 2 0x080308103000010058 [(2, 0xFF00), (3, 0x1234), (4, 0xABCD)] = some (0x12CD, 18) ∧
    x1After 1 0x080308103 [(2, 0xFF00), (3, 0x1234)] = some (0x1200, 9) ∧
    x1After 2 0x30030810300800C059 [(2, 0x1040), (3, 0x1000)] = some (0x8, 18) ∧
    x1After 1 0x000C1011A [(2, 0x1122004455667788), (3, 0x0)] = some (0x5, 9) ∧
    x1After 1 0x12641011A [(2, 0x1122004455667788)] = some (0xFFFFFFFFFFFFFFFF, 9) ∧
    x1After 1 0x360308102 [(2, 0x41004200000044), (3, 0x0)] = some (0x1, 9) ∧
    x1After 1 0x460308102 [(2, 0x40000000041), (3, 0x0)] = some (0x1, 9) := by
  decide

/-- Vectors T77 to T83 of spec/95_test_vectors.md, those with a stated result. -/
theorem test_permute_and_matrix :
    x1After 2 0x017708117000014E50 [(2, 0x102030405060708)] = some (0x807060504030201, 18) ∧
    x1After 1 0x000008117 [(2, 0x102030405060708)] = some (0x808080808080808, 9) ∧
    x1After 1 0x2E0308102 [(2, 0x102030405060708), (3, 0x53977)] = some (0x807060504030201, 9) ∧
    x1After 1 0x600308102 [(2, 0x123456789ABCDEF), (3, 0x8040201008040201)] = some (0x123456789ABCDEF, 9) ∧
    x1After 1 0x600308102 [(2, 0x123456789ABCDEF), (3, 0xFF00000000000000)] = some (0xFFFFFFFF, 9) ∧
    x1After 1 0x600308102 [(2, 0xC000000000000000), (3, 0xC0C0000000000000)] = some (0xC000000000000000, 9) ∧
    x1After 1 0x620308102 [(2, 0xC000000000000000), (3, 0xC0C0000000000000)] = some (0x0, 9) := by
  decide

/-- Vectors T85 to T99 of spec/95_test_vectors.md, those with a stated result. -/
theorem test_set :
    x1After 1 0x000508126 [(2, 0x5)] = some (0x1, 9) ∧
    x1After 1 0x4C0308102 [(2, 0x5), (3, 0x6)] = some (0x0, 9) ∧
    x1After 1 0x000508127 [(2, 0x5)] = some (0x0, 9) ∧
    x1After 1 0x000008128 [(2, 0xFFFFFFFFFFFFFFFF)] = some (0x1, 9) ∧
    x1After 1 0x00010812A [(2, 0xFFFFFFFFFFFFFFFF)] = some (0x0, 9) ∧
    x1After 1 0xFFFF0812A [(2, 0x10000)] = some (0x0, 9) ∧
    x1After 1 0x000408129 [(2, 0x5)] = some (0x1, 9) ∧
    x1After 1 0x00040812B [(2, 0xFFFFFFFFFFFFFFFF)] = some (0x1, 9) ∧
    x1After 1 0x580308102 [(2, 0xFFFFFFFFFFFFFFFF), (3, 0x0)] = some (0x1, 9) ∧
    x1After 1 0x5A0308102 [(2, 0x3), (3, 0x3)] = some (0x1, 9) ∧
    x1After 1 0x5C0308102 [(2, 0xFFFFFFFFFFFFFFFF), (3, 0x0)] = some (0x0, 9) ∧
    x1After 1 0x5E0308102 [(2, 0xFFFFFFFFFFFFFFFF), (3, 0x0)] = some (0x1, 9) ∧
    x1After 1 0x5A020C102 [(2, 0x2), (3, 0x3)] = some (0x1, 9) ∧
    x1After 1 0x5C7F08102 [(2, 0x3E)] = some (0x1, 9) ∧
    x1After 1 0x587F08102 [(2, 0x3E)] = some (0x0, 9) := by
  decide

/-- Vectors T100 to T104 of spec/95_test_vectors.md, those with a stated result. -/
theorem test_float_bits :
    x1After 1 0x400008134 [(2, 0xBFF0000000000000)] = some (0x3FF0000000000000, 9) ∧
    x1After 1 0x420008134 [(2, 0x3FF0000000000000)] = some (0xBFF0000000000000, 9) ∧
    x1After 1 0x440008134 [(2, 0x8000000000000000)] = some (0x0, 9) ∧
    x1After 1 0x000008134 [(2, 0x7FF8000000000001)] = some (0x7FF8000000000001, 9) ∧
    x1After 1 0x400008130 [(2, 0x8000000000000001)] = some (0x1, 9) := by
  decide

/-- Vectors T105 to T114 of spec/95_test_vectors.md, those with a stated result. -/
theorem test_float_compare :
    x1After 1 0x200308135 [(2, 0x3FF0000000000000), (3, 0x4000000000000000)] = some (0xBFF0000000000000, 9) ∧
    x1After 1 0x2A0308135 [(2, 0x3FF0000000000000), (3, 0x4000000000000000)] = some (0x800000000000110E, 9) ∧
    x1After 1 0x2A0308135 [(2, 0x3FF0000000000000), (3, 0x3FF0000000000000)] = some (0x1A05, 9) ∧
    x1After 1 0x220308135 [(2, 0x0), (3, 0x8000000000000000)] = some (0x1, 9) ∧
    x1After 1 0x240308135 [(2, 0xBFF0000000000000), (3, 0x0)] = some (0x1, 9) ∧
    x1After 1 0x260308135 [(2, 0x3FF0000000000000), (3, 0x3FF0000000000000)] = some (0x1, 9) ∧
    x1After 1 0x280308135 [(2, 0x3FF0000000000000), (3, 0x3FF0000000000000)] = some (0x0, 9) ∧
    x1After 1 0x225808135 [(2, 0x3FF0000000000000)] = some (0x1, 9) ∧
    x1After 1 0x067F08135 [(2, 0x3FF0000000000000)] = some (0x403E000000000000, 9) ∧
    x1After 1 0x040308135 [(2, 0x3FF0000000000000), (3, 0x4000000000000000)] = some (0x3FF0000000000000, 9) := by
  decide

/-- Vectors T118 to T119 of spec/95_test_vectors.md, those with a stated result. -/
theorem test_blend :
    x1After 2 0x600308103000010058 [(2, 0xFF0000), (3, 0xFF), (4, 0x80)] = some (0x7F007E, 18) ∧
    x1After 2 0x600308103008000058 [(2, 0xAA112233), (3, 0xFFFFFF)] = some (0xAAFEFEFE, 18) := by
  decide

/-- Vectors T121 to T129 of spec/95_test_vectors.md. -/
theorem test_load :
    holds (run m0 1 0x000808160) (fun s => x1Is 18446744073709551488 s && ipIs 9 s) = true ∧
    holds (run m0 1 0x000808164) (fun s => x1Is 128 s && ipIs 9 s) = true ∧
    holds (run m0 1 0x100A08160) (fun s => x1Is 18446744073709523508 s && ipIs 9 s) = true ∧
    holds (run m0 1 0x100A08164) (fun s => x1Is 37428 s && ipIs 9 s) = true ∧
    holds (run m0 1 0x200C08160) (fun s => x1Is 18446744071562067968 s && ipIs 9 s) = true ∧
    holds (run m0 1 0x200C08164) (fun s => x1Is 2147483648 s && ipIs 9 s) = true ∧
    holds (run m0 1 0x300008160) (fun s => x1Is 1234605616436508552 s && ipIs 9 s) = true ∧
    holds (run (regs [(3,0x1008)] m0) 1 0x3FF80C160) (fun s => x1Is 0x1122334455667788 s) = true ∧
    refusedAs (run m0 1 0x100108160) .misaligned = true ∧
    holds (run (splitting m0) 1 0x100108160) (fun s => x1Is 0x6677 s) = true := by
  decide

/-- Vectors T130 to T133 of spec/95_test_vectors.md. -/
theorem test_load_indexed :
    holds (run (regs [(3,1)] m0) 1 0x308308161) (fun s => x1Is 0x800000009234FF80 s) = true ∧
    holds (run (regs [(3,7)] m0) 1 0x000308165) (fun s => x1Is 0x11 s) = true ∧
    refusedAs (run (regs [(2,0)] m0) 2 0x334508160000004850) .misaligned = true ∧
    holds (run (splitting (withBytes State.reset 0x12345 [1,2,3,4,5,6,7,8])) 2 0x334508160000004850) (fun s => x1Is
      0x0807060504030201 s && ipIs 18 s) = true ∧
    refusedAs (run m0 1 0x400008160) .reservedSize = true := by
  decide

/-- Vectors T134 to T138 of spec/95_test_vectors.md. -/
theorem test_store :
    holds (run (regs [(3,0x1ff)] m0) 1 0x000308070) (fun s => bytesAre s 0xFFF [0,0xFF,0x77]) = true ∧
    holds (run (regs [(3,0xABCD)] m0) 1 0x100308270) (fun s => bytesAre s 0x1001 [0x77,0xCD,0xAB,0x44]) = true ∧
    holds (run (regs [(3,0x11223344)] m0) 1 0x200308470) (fun s => bytesAre s 0x1003 [0x55,0x44,0x33,0x22,0x11,0x80]) = true ∧
    holds (run (regs [(3,0x1122334455667788)] m0) 1 0x300308870) (fun s => bytesAre s 0x1008
      [0x88,0x77,0x66,0x55,0x44,0x33,0x22,0x11,0]) = true ∧
    holds (run (regs [(3,1)] m0) 1 0x3F8308070) (fun s => bytesAre s 0xFC0 [1,0,0,0,0,0,0,0]) = true := by
  decide

/-- Vectors T139 to T143 of spec/95_test_vectors.md. -/
theorem test_store_indexed_and_pointer :
    holds (run m0 1 0x307F08070) (fun s => bytesAre s 0xFFF [0,255,255,255,255,255,255,255,255,0x80]) = true ∧
    holds (run (regs [(3,5),(4,2)] m0) 2 0x308308071000010058) (fun s => bytesAre s 0x1010 [5,0,0,0,0,0,0,0]) = true ∧
    holds (run (withBytes (atIp (regs [(2,0x12340),(3,0xDEAD)]) 0x10000) 0 [1,2,3]) 1 0x700308070) (fun s => bytesAre s
      0x12340 [0xAD,0xDE,0] && bytesAre s 0 [0,0,3]) = true ∧
    holds (run ({m0 with stale := [(5,true)]}) 1 0xF00000260) (fun s => s.stale == [] && ipIs 9 s) = true ∧
    refusedAs (run m0 1 0xF00002860) .reservedCacheCommand = true := by
  decide

/-- Vectors T145 to T152 of spec/95_test_vectors.md. -/
theorem test_branch :
    holds (run (atIp (regs [(1,4),(2,4)]) 4096) 1 0xFF8207E4E) (fun s => ipIs 4078 s) = true ∧
    holds (run (atIp (regs [(1,4),(2,5)]) 4096) 1 0xFF8207E4E) (fun s => ipIs 4105 s) = true ∧
    holds (run (atIp (regs [(1,1)]) 0) 1 0x00800644F) (fun s => ipIs 900 s) = true ∧
    holds (run (atIp (regs [(1,0xFFFFFFFFFFFFFFFF)]) 16) 1 0x000204348) (fun s => ipIs 43 s) = true ∧
    holds (run (atIp (regs [(1,0xFFFFFFFFFFFFFFFF)]) 16) 1 0x00020434A) (fun s => ipIs 25 s) = true ∧
    holds (run (atIp (regs [(2,0xFFFFFFFFFFFFFFFF)]) 16) 1 0x00020434A) (fun s => ipIs 43 s) = true ∧
    holds (run (atIp (regs []) 16) 1 0x000204349) (fun s => ipIs 43 s) = true ∧
    holds (run (atIp (regs [(2,1)]) 16) 1 0x00020434B) (fun s => ipIs 25 s) = true := by
  decide

/-- Vectors T153 to T160 of spec/95_test_vectors.md. -/
theorem test_branch_bit_and_modifier :
    holds (run (atIp (regs [(5,0x800000000000110E)]) 256) 1 0x007F1424D) (fun s => ipIs 274 s) = true ∧
    holds (run (atIp (regs [(5,0x800000000000110E)]) 256) 1 0x00401424D) (fun s => ipIs 265 s) = true ∧
    holds (run (atIp (regs [(1,0xFFFFFFFFFFFFFFFF)]) 0) 1 0x007F0424E) (fun s => ipIs 18 s) = true ∧
    holds (run (atIp (regs [(1,64)]) 0) 1 0x007F0424B) (fun s => ipIs 18 s) = true ∧
    holds (run (atIp (regs [(1,5),(2,3)]) 0) 1 0x000108248) (fun s => ipIs 18 s) = true ∧
    holds (run (atIp (regs []) 8192) 2 0x00020404E00027C35A) (fun s => ipIs 303113 s && s.reg 3 == 0x2012) = true ∧
    holds (run (atIp (regs [(1,1)]) 8192) 2 0x00020404E00027C35A) (fun s => ipIs 8210 s && s.reg 3 == 0x2012) = true ∧
    holds (run (atIp (regs [(4,0x5000)]) 0) 2 0x00020414E00001005A) (fun s => ipIs 20489 s && s.reg 0 == 0) = true := by
  decide

/-- Vectors T161 to T168 of spec/95_test_vectors.md. -/
theorem test_jump :
    holds (run (atIp (regs []) 8192) 1 0x000010179) (fun s => ipIs 8256 s && x1Is 0x2009 s) = true ∧
    holds (run (atIp (regs []) 8201) 1 0xFFFFFDC79) (fun s => ipIs 8192 s) = true ∧
    holds (run (atIp (regs []) 119) 1 0x000000079) (fun s => ipIs 119 s) = true ∧
    holds (run (atIp (regs []) 144) 1 0x0048D1578) (fun s => ipIs 74565 s && x1Is 0x99 s) = true ∧
    holds (run (atIp (regs []) 144) 1 0x0048D1478) (fun s => ipIs 74565 s) = true ∧
    holds (run (atIp (regs [(5,0x1000)]) 768) 1 0x00402957A) (fun s => ipIs 4112 s && x1Is 0x30A s) = true ∧
    holds (run (atIp (regs []) 768) 1 0xFFF0F807A) (fun s => ipIs 764 s) = true ∧
    holds (run (atIp (regs [(1,0x2012)]) 0) 1 0x00000807A) (fun s => ipIs 8210 s) = true := by
  decide

/-- Vectors T169 to T172 of spec/95_test_vectors.md. -/
theorem test_check :
    holds (run (atIp (regs [(4,9)]) 0) 2 0x000A08222000010058) (fun s => ipIs 18 s) = true ∧
    holds (run (withTvec4 (atIp (regs [(4,10)]) 0x90)) 2 0x000A08222000010058) (fun s => trapsTo s 2 0x90) = true ∧
    holds (run (atIp (regs [(3,5),(4,5)]) 0) 2 0x440308003000010058) (fun s => ipIs 18 s) = true ∧
    refusedAs (run State.reset 1 0x000204146) .mapNameOnly = true := by
  decide

/-- Vectors T173 to T178 of spec/95_test_vectors.md. -/
theorem test_trap_and_return :
    holds (run (withTvec4 State.reset) 1 0x0002041CE) (fun s => trapsTo s 1 0) = true ∧
    holds (run ({withTvec4 (atIp State.reset 0x900) with pmstack := 3}) 1 0x000028000) (fun s => trapsTo s 5 0x900 &&
      s.pmstack == 0x3A) = true ∧
    holds (run ({withTvec4 (atIp State.reset 0x900) with pmstack := -1}) 1 0) (fun s => trapsTo s 0 0x900 && s.pmstack
      == 0xFFFFFFFFFFFFFFFA) = true ∧
    holds (run ({State.reset with pmstack := 0x3A, eip := 0x900, sem := 1}) 1 0x260004107) (fun s => s.pmstack == 3 &&
      s.sem == 0 && ipIs 0x909 s) = true ∧
    holds (run ({State.reset with pmstack := 0x3A, eip := 0x900}) 1 0x260000007) (fun s => s.pmstack == 3 && ipIs 0x900
      s) = true ∧
    holds (run ({regs [(5,2)] with eip := 0x900, sem := 0x201}) 1 0x260914207) (fun s => ipIs 0x912 s && s.sem == 0) =
      true := by
  decide

/-- Vectors T179 to T183 of spec/95_test_vectors.md. -/
theorem test_csr :
    holds (run ({State.reset with cfg := csrCfg .writes, badaddr := #v[0,0,0,9,0]}) 1 0xC0040010F) (fun s => x1Is 9 s
      && s.badaddr[3] == 9) = true ∧
    holds (run ({withTvec4 (regs [(1,5)]) with cfg := csrCfg .writes, pmstack := 0}) 1 0xC0040010F) (fun s => trapsTo s
      3 0 && x1Is 5 s) = true ∧
    holds (run ({regs [(2,5)] with cfg := csrCfg .writes, badaddr := #v[0,0,0,9,0]}) 1 0xC0041200F) (fun s =>
      s.badaddr[3] == 5) = true ∧
    holds (run ({regs [(2,5)] with cfg := csrCfg .writes, badaddr := #v[0,0,0,9,0]}) 1 0xC007FC10F) (fun s =>
      s.badaddr[3] == -1 && x1Is 9 s) = true ∧
    holds (run (withTvec4 State.reset) 1 0x048C0010F) (fun s => trapsTo s 1 0) = true := by
  decide

/-- R502, R503: a write mask, a semaphore, a register of its own, and a write that csr_map has raise (log 39). -/
theorem test_csr_kinds :
    holds (run ({regs [(2,0xFF)] with cfg := csrOf (.badaddr .machine) 0xFF 0x0F .writes, badaddr := #v[0,0,0,0x190,0]}) 1
      0xC0041210F) (fun s => x1Is 0x90 s && s.badaddr[3] == 0x19F) = true ∧
    holds (run ({regs [(2,1)] with cfg := csrOf (.semaphore 5) 1 1 .writes}) 1 0xC0041210F) (fun s => x1Is 0 s && s.sem
      == 32) = true ∧
    holds (run ({regs [(2,9)] with cfg := csrOf (.own 7) (-1) (-1) .writes, csrs := [(7, 4)]}) 1 0xC0041210F) (fun s =>
      x1Is 4 s && s.csrs == [(7, 9)]) = true ∧
    holds (run ({withTvec4 (regs [(2,9)]) with cfg := csrCfg .raises}) 1 0xC0041210F) (fun s => trapsTo s 3 0) = true := by
  decide

/-- R91 with log 37: LDO from a device reads its present bytes; STO to it is handed to it, memory unchanged. -/
theorem test_device :
    holds (run ({deviceState (regs [(2,0x8000)]) with device := [(0x8000, 7), (0x8001, 1)]}) 1 0x300008160) (fun s =>
      x1Is 0x107 s && s.deviceOut == []) = true ∧
    holds (run (deviceState (regs [(2,0x80FC),(3,0x1FF)])) 1 0x200308070) (fun s => s.deviceOut == [(0x80FC, 0xFF),
      (0x80FD, 1), (0x80FE, 0), (0x80FF, 0)] && s.byteAt 0x80FC == 0 && !s.mem.any (fun c => c.1 == 0x80FC)) = true ∧
    refusedAs (run ({regs [(2,0x8000)] with cfg := { Params.reset with backed := [{ base := 0, size := 0x8004 }] }}) 1
      0x300008160) .unbackedAddress = true := by
  decide

/-- Vectors T184 to T190 of spec/95_test_vectors.md. -/
theorem test_queue :
    holds (run ({regs [(2,0x1ff),(3,4)] with cfg := { Params.reset with queueWidth := 8 }}) 1 0x100308007) (fun s =>
      queue4 s == [0xFF]) = true ∧
    holds (run ({withQueue4 [0xFF] (regs [(2,7)]) with cfg := { Params.reset with queueWidth := 8 }}) 1 0x180408007)
      (fun s => queue4 s == [0xFF,7]) = true ∧
    holds (run (withQueue4 [0xFF,7] (regs [(3,4)])) 1 0x12000C107) (fun s => x1Is 0xFF s && queue4 s == [7]) = true ∧
    holds (run (withQueue4 [7] State.reset) 1 0x1A0010107) (fun s => x1Is 7 s && queue4 s == []) = true ∧
    holds (run (withQueue4 [7] State.reset) 1 0x1C0010107) (fun s => x1Is 7 s && queue4 s == [7]) = true ∧
    holds (run (withQueue4 [7,9] State.reset) 1 0x1E0010107) (fun s => x1Is 0x4000000000000002 s) = true ∧
    holds (run (regs [(3,4)]) 1 0x16000C107) (fun s => x1Is 0x8000000000000000 s) = true := by
  decide

/-- Vectors T191 to T196 of spec/95_test_vectors.md. -/
theorem test_redirect_and_wait :
    holds (run (rexState false) 1 0x200004007) (fun s => ipIs 9 s) = true ∧
    holds (run (rexState true) 1 0x200004007) (fun s => s.cause[1] == 7 && s.badaddr[1] == 0x40 && s.pmstack == 2 &&
      ipIs 0x800 s) = true ∧
    refusedAs (run (rexState true) 1 0x200014007) .rexTarget = true ∧
    holds (run State.reset 1 0x220000007) (fun s => ipIs 9 s) = true ∧
    holds (run State.reset 1 0x240000007) (fun s => ipIs 9 s && s.waiting) = true ∧
    holds (run State.reset 1 0x3E0000007) (fun s => ipIs 9 s) = true := by
  decide

/-- Vectors T197 to T204 of spec/95_test_vectors.md. -/
theorem test_tlb_and_cells :
    holds (run ({regs [(2,0x8000000000000405),(3,0xABC)] with tlb := [(1029,0x111)]}) 1 0x3C0308107) (fun s => x1Is
      0x111 s && s.tlb == [(1029,0xABC)]) = true ∧
    holds (run ({regs [(2,0x405),(3,0xABC)] with tlb := [(1029,0x111)]}) 1 0x3C0308107) (fun s => x1Is 0x111 s && s.tlb
      == [(1029,0x111)]) = true ∧
    refusedAs (run State.reset 1 0x300000007) .mapNameOnly = true ∧
    holds (run (withTvec4 State.reset) 1 0x040000007) (fun s => trapsTo s 1 0) = true ∧
    holds (run State.reset 1 0x00000003F) (fun s => ipIs 9 s) = true ∧
    holds (run State.reset 1 0x0000000BF) (fun s => ipIs 9 s) = true ∧
    holds (run (withTvec4 State.reset) 1 0x00000000B) (fun s => trapsTo s 1 0) = true ∧
    refusedAs (run State.reset 1 0x000000053) .undescribedModifier = true := by
  decide

/-- Vectors T205 to T209 of spec/95_test_vectors.md. -/
theorem test_constant_words :
    holds (run State.reset 2 0x03FF00104000000150) (fun s => x1Is 0x7FF s && ipIs 18 s) = true ∧
    holds (run State.reset 2 0x000000104FFFFFFF50) (fun s => x1Is 0xFFFFFFFFFFFFFC00 s) = true ∧
    holds (run State.reset 2 0xFFFF00104000000050) (fun s => x1Is 0x3FF s) = true ∧
    holds (run (regs [(2,0xFFFFFFFFFFFFFFFF)]) 2 0x000008108000000150) (fun s => x1Is 0x400 s) = true ∧
    holds (run State.reset 3 0x000100109200000051000000050) (fun s => x1Is 0x8000000000000001 s && ipIs 27 s) = true := by
  decide

/-- Vectors T210 to T217 of spec/95_test_vectors.md. -/
theorem test_bundle_grammar :
    refusedAs (run State.reset 2 0x000000104000000051) .malformedBundle = true ∧
    refusedAs (run State.reset 2 0x00020414E000000050) .modifierMisplaced = true ∧
    refusedAs (run State.reset 3 0x080308102000000058000000058) .malformedBundle = true ∧
    holds (run (regs [(2,1),(3,2)]) 2 0x080308102000000058) (fun s => x1Is 3 s && ipIs 18 s) = true ∧
    refusedAs (run State.reset 2 0x08030810200007C05A) .modifierMisplaced = true ∧
    refusedAs (run State.reset 2 0x30000816000024005C) .modifierMisplaced = true ∧
    refusedAs (run State.reset 1 0x0000000D8) .undescribedModifier = true ∧
    refusedAs (run State.reset 1 0x00000005B) .undescribedModifier = true := by
  decide

/-- Vectors T220 to T227 of spec/95_test_vectors.md. -/
theorem test_mask_moves :
    holds (run (vecRegs [(5,3)]) 1 0x18002813E) (fun s => maskOf 1 s == 7) = true ∧
    holds (run (vecRegs [(5,0xFFFFFFFFFFFFFFFF)]) 1 0x18002813E) (fun s => maskOf 1 s == 255) = true ∧
    holds (run (withMask 2 0x60 (vecRegs [])) 1 0x1C001013E) (fun s => x1Is 5 s) = true ∧
    holds (run (vecRegs []) 1 0x1C001013E) (fun s => x1Is 128 s) = true ∧
    holds (run (withMask 2 0x60 (vecRegs [])) 1 0x1E001013E) (fun s => x1Is 6 s) = true ∧
    holds (run (withMask 2 0x61 (vecRegs [])) 1 0x1A001013E) (fun s => x1Is 3 s) = true ∧
    holds (run (vecRegs [(2,0x1A5)]) 1 0x20001033E) (fun s => maskOf 3 s == 0xA5) = true ∧
    holds (run (withMask 3 0xA5 (vecRegs [])) 1 0x22001813E) (fun s => x1Is 0xA5 s) = true := by
  decide

/-- Vectors T228 to T235 of spec/95_test_vectors.md. -/
theorem test_mask_logic :
    holds (run (withMask 3 10 (withMask 2 12 (vecRegs []))) 1 0x000C1013E) (fun s => maskOf 1 s == 8) = true ∧
    holds (run (withMask 3 10 (withMask 2 12 (vecRegs []))) 1 0x020C1013E) (fun s => maskOf 1 s == 14) = true ∧
    holds (run (withMask 3 10 (withMask 2 12 (vecRegs []))) 1 0x040C1013E) (fun s => maskOf 1 s == 6) = true ∧
    holds (run (withMask 3 1 (withMask 2 255 (vecRegs []))) 1 0x080C1013E) (fun s => maskOf 1 s == 0) = true ∧
    holds (run (withMask 3 1 (withMask 2 0 (vecRegs []))) 1 0x0A0C1013E) (fun s => maskOf 1 s == 255) = true ∧
    holds (run (withMask 3 10 (withMask 2 12 (vecRegs []))) 1 0x100C1013E) (fun s => maskOf 1 s == 247) = true ∧
    holds (run (withMask 3 0 (withMask 2 129 (vecRegs []))) 1 0x0C041013E) (fun s => maskOf 1 s == 2) = true ∧
    holds (run (withMask 3 0 (withMask 2 129 (vecRegs []))) 1 0x0E041013E) (fun s => maskOf 1 s == 64) = true := by
  decide

/-- Vectors T236 to T242 of spec/95_test_vectors.md. -/
theorem test_vector_arithmetic :
    holds (run (withVec 1 [9,9,9,9,9] (withVec 2 [1,2,3,4,5] (withVec 3 [10,20,30,40,50] (vecRegs [])))) 1 0x08238A182)
      (fun s => vecIs s 1 [11,22,33,44,9]) = true ∧
    holds (run (withMask 0 5 (withVec 1 [9,9,9,9,9] (withVec 2 [1,2,3,4,5] (withVec 3 [10,20,30,40,50] (vecRegs [])))))
      2 0x08238A182000001058) (fun s => vecIs s 1 [11,9,33,9,9] && ipIs 18 s) = true ∧
    holds (run (withMask 0 5 (withVec 1 [9,9,9,9,9] (withVec 2 [1,2,3,4,5] (withVec 3 [10,20,30,40,50] (vecRegs [])))))
      2 0x08238A182000001158) (fun s => vecIs s 1 [11,0,33,0,9]) = true ∧
    holds (run (withMask 0 15 (withVec 1 [9,9,9,9,9] (withVec 2 [1,2,3,4] (vecRegs [(4,100)])))) 2
      0x08048A182000001058) (fun s => vecIs s 1 [101,102,103,104,9]) = true ∧
    holds (run (withVec 1 [9,9,9,9,9] (withVec 2 [1,2,3,4,5] (withVec 3 [10,20,30,40,50] (vecRegs [])))) 1 0x00078A184)
      (fun s => vecIs s 1 [8,9,10,11,9]) = true ∧
    holds (run ({withVec 1 [9,9,9,9,9] (withVec 2 [1,2,3,4,5] (withVec 3 [10,20,30,40,50] (vecRegs []))) with vl := 0})
      1 0x08238A182) (fun s => vecIs s 1 [9,9,9,9,9] && ipIs 9 s) = true ∧
    refusedAs (run ({withVec 1 [9,9,9,9,9] (withVec 2 [1,2,3,4,5] (withVec 3 [10,20,30,40,50] (vecRegs []))) with vl :=
      9}) 1 0x08238A182) .vectorLength = true := by
  decide

/-- Vectors T244 to T249 of spec/95_test_vectors.md. -/
theorem test_vector_masked :
    holds (run (withMask 1 3 (withVec 2 [0xFFFFFFFFFFFFFFFF,0xFFFFFFFFFFFFFFFE,3,4] (vecRegs []))) 1 0x0C038A181) (fun
      s => vecIs s 1 [1,2,0,0]) = true ∧
    holds (run (withMask 0 15 (withVec 2 [255,0,1,3] (vecRegs []))) 1 0x04008A181) (fun s => vecIs s 1 [8,0,1,2]) = true ∧
    holds (run (withMask 1 0xF0 (withVec 2 [1,2,3,4] (withVec 3 [1,0,3,0] (vecRegs [])))) 1 0x6C2388982) (fun s =>
      maskOf 1 s == 0xFA) = true ∧
    holds (run (withVec 2 [0xFFFFFFFFFFFFFFFF,5,0,9] (vecRegs [(3,1)])) 1 0x6C0389182) (fun s => maskOf 1 s == 5) = true ∧
    holds (run (withMask 0 15 (withVec 2 [1,2,3,0] (vecRegs []))) 1 0x300088181) (fun s => x1Is 5 s) = true ∧
    holds (run (withMask 0 15 (vecRegs [(2,6)])) 1 0x32000A181) (fun s => vecIs s 1 [0,1,1,0]) = true := by
  decide

/-- Vectors T250 to T252 of spec/95_test_vectors.md. -/
theorem test_vector_pack :
    holds (run (withMask 1 10 (withVec 2 [10,11,12,13] (withVec 1 [9,9,9,9] (vecRegs [])))) 1 0x38038A181) (fun s =>
      vecIs s 1 [11,13,0,0]) = true ∧
    holds (run (withMask 1 10 (withVec 1 [7,7,7,7] (vecRegs [(2,8)]))) 1 0x3A020A181) (fun s => vecIs s 1 [8,24,7,7]) = true ∧
    holds (run (withMask 1 11 (vecRegs [(2,8)])) 1 0x3C020A181) (fun s => vecIs s 1 [0,8,16,16]) = true := by
  decide

/-- Vectors T253 to T258 of spec/95_test_vectors.md. -/
theorem test_vector_slide :
    holds (run (withVec 1 [9,9,9,9,9] (withVec 2 [1,2,3,4,5] (withVec 3 [10,20,30,40,50] (vecRegs [])))) 1 0x70418A182)
      (fun s => vecIs s 1 [0,1,2,3,9]) = true ∧
    holds (run (withVec 1 [9,9,9,9,9] (withVec 2 [1,2,3,4,5] (withVec 3 [10,20,30,40,50] (vecRegs [])))) 1 0x72418A182)
      (fun s => vecIs s 1 [2,3,4,0,9]) = true ∧
    holds (run (withVec 1 [9,9,9,9,9] (withVec 2 [1,2,3,4,5] (withVec 3 [10,20,30,40,50] (vecRegs [])))) 1 0x70458A182)
      (fun s => vecIs s 1 [0,0,0,0,9]) = true ∧
    holds (run (vecRegs [(2,6),(3,0x55)]) 1 0x76030A182) (fun s => vecIs s 1 [0,0,0,0,0,0,0x55]) = true ∧
    refusedAs (run (vecRegs [(2,8),(3,0x55)]) 1 0x76030A182) .elementIndex = true ∧
    holds (run (withVec 3 [5,6,7,8] (vecRegs [(2,2)])) 1 0x742308182) (fun s => x1Is 7 s) = true := by
  decide

/-- VSRLV and VEX under an IMOD mask (R185, R551), without and with z: active, unchanged and zero. -/
theorem test_vector_slide_masked :
    holds (run (withMask 0 5 (withVec 1 [9,9,9,9,9] (withVec 2 [1,2,3,4,5] (vecRegs [])))) 2 0x72418A182000001058)
      (fun s => vecIs s 1 [2,9,4,9,9]) = true ∧
    holds (run (withMask 0 5 (withVec 1 [9,9,9,9,9] (withVec 2 [1,2,3,4,5] (vecRegs [])))) 2 0x72418A182000001158)
      (fun s => vecIs s 1 [2,0,4,0,9]) = true ∧
    holds (run (withMask 0 5 (withVec 3 [5,6,7,8] (vecRegs [(1,9),(2,2)]))) 2 0x742308182000001058) (x1Is 7) = true ∧
    holds (run (withMask 0 5 (withVec 3 [5,6,7,8] (vecRegs [(1,9),(2,1)]))) 2 0x742308182000001058) (x1Is 9) = true ∧
    holds (run (withMask 0 5 (withVec 3 [5,6,7,8] (vecRegs [(1,9),(2,1)]))) 2 0x742308182000001158) (x1Is 0) = true := by
  decide

/-- NOP with v = 1 while VL exceeds VLMAX is refused, with VL at VLMAX it advances (R552, R173). -/
theorem test_nop_vector :
    refusedAs (run { State.reset with vl := 65 } 1 0x0000000BF) .vectorLength = true ∧
      holds (run { State.reset with vl := 64 } 1 0x0000000BF) (ipIs 9) = true := by
  decide

/-- Vectors T259 to T263 of spec/95_test_vectors.md. -/
theorem test_vector_load :
    holds (run (withBytes (withBytes (vecRegs [(2,0x1000)] 2) 0x1000 [0xA]) 0x1010 [0xB]) 2 0x30000A1E200028005C) (fun
      s => vecIs s 1 [10,11,0]) = true ∧
    holds (run (withMask 1 5 (withVec 1 [9,9,9,9] (withBytes (vecRegs [(2,0x1000),(4,2)]) 0x1000
      [0x80,1,0x81,1,0x82,1,0x83]))) 2 0x00000A1E200002135C) (fun s => vecIs s 1 [0x80,0,0x82,0]) = true ∧
    holds (run (withMask 1 5 (withVec 1 [9,9,9,9] (withBytes (vecRegs [(2,0x1000),(4,2)]) 0x1000
      [0x80,1,0x81,1,0x82,1,0x83]))) 2 0x00000A1E200002125C) (fun s => vecIs s 1
      [0xFFFFFFFFFFFFFF80,9,0xFFFFFFFFFFFFFF82,9]) = true ∧
    holds (run (withVec 5 [0x10,0] (withBytes (withBytes (vecRegs [(2,0x1000)] 2) 0x1000 [0xA]) 0x1010 [0xB])) 2
      0x30000A1E300012805C) (fun s => vecIs s 1 [11,10]) = true ∧
    holds (run (withMask 1 10 (withVec 1 [9,9,9,9] (withBytes (withBytes (vecRegs [(2,0x1000)]) 0x1000 [0xA]) 0x1008
      [0xB]))) 2 0x30000A1E600024135C) (fun s => vecIs s 1 [10,11,0,0]) = true := by
  decide

/-- Vectors T264 to T268 of spec/95_test_vectors.md. -/
theorem test_vector_store :
    holds (run (withBytes (withBytes (withMask 1 5 (withVec 3 [1,2,3,4] (vecRegs [(2,0x1000)]))) 0x1008
      [7,7,7,7,7,7,7,7]) 0x1018 [6]) 2 0x3023080F200024135C) (fun s => bytesAre s 0x1000
      [1,0,0,0,0,0,0,0,0,0,0,0,0,0,0,0,3,0,0,0,0,0,0,0,0]) = true ∧
    holds (run (withBytes (withBytes (withMask 1 5 (withVec 3 [1,2,3,4] (vecRegs [(2,0x1000)]))) 0x1008
      [7,7,7,7,7,7,7,7]) 0x1018 [6]) 2 0x3023080F600024125C) (fun s => bytesAre s 0x1000
      [1,0,0,0,0,0,0,0,3,0,0,0,0,0,0,0,0,0,0,0,0,0,0,0,6]) = true ∧
    refusedAs (run (withBytes (withBytes (withMask 1 5 (withVec 3 [1,2,3,4] (vecRegs [(2,0x1000)]))) 0x1008
      [7,7,7,7,7,7,7,7]) 0x1018 [6]) 2 0x3023080F600024135C) .compressZero = true ∧
    refusedAs (run (vecRegs []) 1 0x30000A1E2) .strideMissing = true ∧
    holds (run (withTvec4 (vecRegs [])) 1 0x0C0308182) (fun s => trapsTo s 1 0) = true := by
  decide

/-! ## Witnesses: for each statement with hypotheses, a state and operands that meet them -/

/-- VL at its greatest admitted value. -/
def fullVl : State := { State.reset with vl := 64 }

/-- VL just beyond VLMAX. -/
def longVl : State := { State.reset with vl := 65 }

def tailed (m : ModTail) : State := { State.reset with mods := { Mods.empty with tail := some m } }
def imod (a : BitVec 2) : ImodF := { rm := 2, tc := 2, rc := 4, td := 3, rd := 5, a := a, m3 := 1, z := true }
def brmod : BrmodF := { c15 := 1, tc := 0, rc := 31, tt := false, rt := 3 }
def stride (tc a : BitVec 2) : StrideF := { c14 := 0x2000, tc := tc, rc := 4, a := a, m3 := 1, z := false }
def exiState (p : BitVec 28) : State := { State.reset with mods := { Mods.empty with exi0 := some p } }
def tlbState (entry : Nat) : State :=
  { State.reset with cfg := { Params.reset with translate := .tlb 0 }, tlb := [(1024, BitVec.ofNat 64 entry)] }
def userMode (p : SysPriv) : State := { State.reset with pmstack := 0, cfg := { Params.reset with sysPriv := p } }
def fullInput : EnvInput := { irq := some 3, trace := some [5], device := some [(0x8000, 1), (0x8000, 2)] }
def askedBy (s : State) (c : Byte) : State := { s with irq := some c }
def queueOf (n : Nat) : State := { State.reset.setQueue 4 (List.replicate n 7#64) with cfg := { Params.reset with queueDepth := 3 } }

/-- An access that is not refused for its alignment reaches memory, also across the top of the address space, where
translation is the identity and memory backs every byte. -/
theorem reset_accessible (s : State) (k : Access) (a : Word) (n : Nat) (ht : s.cfg.translate = .identity)
    (hb : s.cfg.backed = [{ base := 0, size := 2 ^ 64 }]) (h : s.misaligned a n = false) : accessible s k a n := by
  refine ⟨h, fun i _ => ⟨(a + BitVec.ofNat 64 i).toNat, ?_⟩⟩
  have he : s.translate k (a + BitVec.ofNat 64 i) = .ok (a + BitVec.ofNat 64 i).toNat := by simp only [State.translate, ht]
  unfold State.physical
  rw [he]
  refine if_pos (Bool.or_eq_true_iff.2 (.inr ?_))
  rw [hb]
  exact Bool.or_eq_true_iff.2 (.inl (decide_eq_true ⟨Nat.zero_le _, by simpa using (a + BitVec.ofNat 64 i).isLt⟩))

/-- Sixteen bytes of memory, at 0x1000. -/
def smallMemory : State := { State.reset with cfg := { Params.reset with backed := [{ base := 0x1000, size := 16 }] } }

/-- An address is refused with a name. -/
def addressRefused (r : Except Refusal Nat) (e : Refusal) : Bool :=
  match r with | .error x => decide (x = e) | .ok _ => false

/-- An access whose first byte is refused is not accessible. -/
theorem first_refused (s : State) (k : Access) (a : Word) (n : Nat) (e : Refusal) (hn : 0 < n)
    (h : addressRefused (s.physical k a) e = true) : ¬ accessible s k a n := by
  rintro ⟨_, ha⟩
  obtain ⟨p, hp⟩ := ha 0 hn
  rw [BitVec.add_zero] at hp
  rw [hp] at h
  cases h

/-- `DecodeOfEncode`. -/
theorem witness_encodable : (Instr.brk 5).wellFormed = true ∧ (Instr.jal 0 3).wellFormed = true := by decide

/-- `DecodedIsWellFormed`. -/
theorem witness_decodes : decode 0x080308102#36 = .ok (.addR { r2 false with ta := false, tt := false }) := by decide

/-- `StepKeepsInvariant`, `StepKeepsParameters`, `StepRunsDecoded`: a state with the invariant, not waiting, without a
request and without modifiers, whose word decodes and whose step answers a next state. -/
theorem witness_step :
    let s := (regs [(2, 7)]).withFetchWord 36 0x080308102
    Memory.wf s.mem = true ∧ s.regs[0] = 0#64 ∧ s.cfg.wf = true ∧ s.waiting = false ∧ s.irq = none ∧
      s.mods = Mods.empty ∧ s.fetchCode s.ip = .ok 0x080308102#36 ∧
      decode 0x080308102#36 = .ok (.addR { r2 false with ta := false, tt := false }) ∧
      isModifier (.addR { r2 false with ta := false, tt := false }) = false ∧ holds (step s) (ipIs 9) = true := by
  refine ⟨?_, ?_, ?_, ?_, ?_, ?_, ?_, ?_, ?_, ?_⟩ <;> decide

/-- `StepRunsDecoded`, `ModifierContinuesBundle`: the last nybble address that a fetch reaches and the first that it does not;
bytes all fetchable; a stale last byte, and bytes that memory does not back and that do not translate, which refuse the step. -/
theorem witness_fetch :
    ¬ 2 ^ 64 < (0xFFFFFFFFFFFFFFF7#64 : Word).toNat + 9 ∧ 2 ^ 64 < (0xFFFFFFFFFFFFFFF8#64 : Word).toNat + 9 ∧
      (∀ i < 5, addressRefused (State.reset.physical .fetch (codeByte 1#64 (2 * i))) .unbackedAddress = false ∧
        sparseGet false State.reset.stale i = false) ∧
      codeByte 1#64 8 = 4#64 ∧ sparseGet false { State.reset with stale := [(4, true)] }.stale 4 = true ∧
      refusedAs (step { State.reset with stale := [(4, true)], ip := 1 }) .staleCode = true ∧
      addressRefused (smallMemory.physical .fetch (codeByte 0#64 0)) .unbackedAddress = true ∧
      refusedAs (step smallMemory) .unbackedAddress = true ∧ refusedAs (step (tlbState 0)) .noTranslation = true ∧
      refusedAs (step { State.reset with ip := 0xFFFFFFFFFFFFFFF8 }) .fetchPastTop = true := by
  decide

/-- `StepKeepsInvariant`: a state with the invariant whose step answers a next state. -/
theorem witness_invariant : fullVl.Inv ∧ holds (step fullVl) (ipIs 0) = true := by
  refine ⟨⟨by decide, by decide, by decide, ?_, by decide, ?_, by decide, ?_, by decide, ?_, by decide, ?_, by decide,
    by decide, by decide, ?_, by decide⟩, by decide⟩
  · exact fun c h => absurd h List.not_mem_nil
  · exact fun c h => absurd h List.not_mem_nil
  · exact fun c h => absurd h List.not_mem_nil
  · exact fun c h => absurd h List.not_mem_nil
  · exact fun c h => absurd h List.not_mem_nil
  · intro q w h
    rw [show fullVl.queue q = [] by simp [State.queue, fullVl, State.reset]] at h
    exact absurd h List.not_mem_nil

/-- `ModifierContinuesBundle`, and `ModifiersRecordOrRefuse`'s first clause: EXI0 at ip. -/
theorem witness_modifier :
    let s := State.reset.withFetchWord 36 0x000000150
    s.fetchCode s.ipWord = .ok 0x000000150#36 ∧ decode 0x000000150#36 = .ok (.exi0 1) ∧ isModifier (.exi0 1) = true ∧
      holds (exec (.exi0 1) s) (fun t => t.mods.exi0 == some 1) = true := by
  refine ⟨?_, ?_, ?_, ?_⟩ <;> decide

/-- `UndefinedWordRaises`: an empty cell of the two-source map, alone and behind a modifier. -/
theorem witness_undefined :
    (State.reset.withFetchWord 36 0x060000002).fetchCode 0#64 = .ok 0x060000002#36 ∧
      decode 0x060000002#36 = .error .unimplemented ∧
      (let s := { State.reset.withFetchWord 72 0x060000002000000058 with mods := (tailed (.imod (imod 0))).mods }
      s.fetchCode s.ipWord = .ok 0x060000002#36) := by
  refine ⟨?_, ?_, ?_⟩ <;> decide

/-- `BoundaryOfAStep`: neither a wait nor a request; an enabled request, while waiting and not; a wait without a request; a
masked request; no input left, and one with everything it can give, of a device's byte listed twice, once and not at all. -/
theorem witness_boundary :
    State.reset.irq = none ∧ State.reset.waiting = false ∧ State.reset.env = [] ∧
      { State.reset with env := [fullInput] }.env = fullInput :: [] ∧ fullInput.trace = some [5#64] ∧
      fullInput.device = some ([(0x8000, 1#8)] ++ (0x8000, 2#8) :: []) ∧ (deviceState State.reset).isDevice 0x8000 = true ∧
      (deviceState State.reset).isDevice 0x80FF = true ∧ (∀ c ∈ [(0x8000, 1#8), (0x8000, 2#8)], c.1 ≠ 0x80FF) ∧
      (askedBy { State.reset with pmstack := 1 } 9).interruptsEnabled = true ∧
      (askedBy { State.reset with pmstack := 1, waiting := true } 9).interruptsEnabled = true ∧
      { State.reset with waiting := true }.irq = none ∧ (askedBy State.reset 9).interruptsEnabled = false := by
  decide

/-- `OnlyStoresChangeMemory` and `OnlySystemControlChangesMode`: ADD is neither, and completes. -/
theorem witness_frame :
    isStore (.addR (r2 false)) = false ∧ isSystemControl (.addR (r2 false)) = false ∧
      holds (exec (.addR { r2 false with ta := false, tt := false }) State.reset) (ipIs 9) = true := by
  decide

/-- `MisplacedModifiersDoNothing`: an empty SYS cell under EXI0, under BRMOD and under STRIDE raises. -/
theorem witness_misplaced :
    takesExi (.sysOther 0x30 sys) = false ∧ takesBrmod (.sysOther 0x30 sys) = false ∧
      takesStride (.sysOther 0x30 sys) = false ∧ isModifier (.sysOther 0x30 sys) = false ∧
      (exiState 1).mods.exi0.isSome = true ∧ (tailed (.brmod brmod)).mods.tail = some (.brmod brmod) ∧
      (tailed (.stride (stride 0 0))).mods.tail = some (.stride (stride 0 0)) ∧
      holds (exec (.sysOther 0x30 sys) (exiState 1)) (fun t => t.pmstack == 0xAA) = true ∧
      holds (exec (.sysOther 0x30 sys) (tailed (.brmod brmod))) (fun t => t.pmstack == 0xAA) = true ∧
      holds (exec (.sysOther 0x30 sys) (tailed (.stride (stride 0 0)))) (fun t => t.pmstack == 0xAA) = true := by
  decide

/-- `ZeroRegister`: the last register, and the neighbour of x0. -/
theorem witness_zeroRegister : (31#5 : RegNo) ≠ 0#5 ∧ (1#5 : RegNo) ≠ 0#5 ∧ (0#5 : RegNo) ≠ 1#5 := by decide

/-- `OperandValues`: both constant type codes. -/
theorem witness_operandValues : 2 ≤ (2#2 : BitVec 2).toNat ∧ 2 ≤ (3#2 : BitVec 2).toNat := by decide

/-- `ModifierOperands`: no modifier; IMOD, BTFLD and STRIDE, with and without mask and rounding mode. -/
theorem witness_modifierOperands :
    State.reset.mods.tail = none ∧ (tailed (.imod (imod 3))).mods.tail = some (.imod (imod 3)) ∧
      (tailed (.btfld (imod 0))).mods.tail = some (.btfld (imod 0)) ∧
      (tailed (.stride (stride 1 1))).mods.tail = some (.stride (stride 1 1)) := by
  decide

/-- `ConstantAssembly`: no EXI word; EXI0 with the least and the greatest payload; EXI1 with its top bits set. -/
theorem witness_constantAssembly :
    Mods.empty.exi0 = none ∧ (exiState 0x8000000).mods.exi0 = some 0x8000000#28 ∧ (exiState 0x7FFFFFF).mods.exi1 = none ∧
      ({ Mods.empty with exi0 := some 1#28, exi1 := some 0xFFFFFFF#28 } : Mods).exi1 = some 0xFFFFFFF#28 := by
  decide

/-- `Displacements`: no modifier; STRIDE, without and with EXI0. -/
theorem witness_displacements :
    Mods.empty.tail = none ∧ (tailed (.stride (stride 0 0))).mods.exi0 = none ∧
      (tailed (.stride (stride 0 0))).mods.tail = some (.stride (stride 0 0)) ∧
      ({ (tailed (.stride (stride 0 0))).mods with exi0 := some 5#28 } : Mods).exi0 = some 5#28 := by
  decide

/-- `ModifiersRecordOrRefuse`: each place of the grammar, admitted and not. -/
theorem witness_modifierGrammar :
    State.reset.mods = Mods.empty ∧ (exiState 1).mods ≠ Mods.empty ∧ (exiState 1).mods.exi0.isSome = true ∧
      (exiState 1).mods.exi1 = none ∧ (exiState 1).mods.tail = none ∧ State.reset.mods.exi0 = none ∧
      ({ (exiState 1).mods with exi1 := some 2#28 } : Mods).exi1.isSome = true ∧
      ({ (exiState 1).mods with exi1 := some 2#28 } : Mods).exi2 = none ∧
      ({ (exiState 1).mods with exi1 := some 2#28, exi2 := some 3#28 } : Mods).exi2.isSome = true ∧
      (tailed (.imod (imod 0))).mods.tail.isSome = true := by
  decide

/-- The statements about instructions of a format (`UnaryInteger` to `ImmediateCompareAndSearch`, `FloatSignAndCompare`,
`FloatArithmetic`): no modifier, IMOD, EXI0 where the format takes it; VL at VLMAX and beyond it. -/
theorem witness_formats :
    State.reset.mods.fit .plain = true ∧ (tailed (.imod (imod 3))).mods.fit .plain = true ∧
      (exiState 1).mods.fit .extended = true ∧ fullVl.mods.fit .plain = true ∧ fullVl.vl.toNat = fullVl.cfg.vlmax ∧
      longVl.mods.fit .plain = true ∧ longVl.cfg.vlmax < longVl.vl.toNat := by
  decide

/-- `ByteIndex`: a first byte at the lowest and at the highest place of a full vector, and none. -/
theorem witness_byteIndex :
    firstByteOf (withVec 2 [5] fullVl) none 2 (fun _ => 5#8) 0#64 ∧
      firstByteOf { State.reset with vl := 1, vregs := [(2, 0x0500000000000000#64)] } none 2 (fun _ => 5#8) 7#64 ∧
      firstByteOf { State.reset with vl := 1 } none 2 (fun _ => 5#8) 0xFFFFFFFFFFFFFFFF#64 ∧
      (1#2 : BitVec 2) ≠ 0#2 ∧ isVec 2#2 = false ∧ State.reset.mods.fit .extended = true := by
  refine ⟨.inl ⟨0, ⟨by decide, by decide, by decide⟩, by decide, by decide⟩,
    .inl ⟨7, ⟨by decide, by decide, by decide⟩, by decide, by decide⟩, .inr ⟨fun j h => ?_, by decide⟩, by decide, by decide,
    by decide⟩
  obtain ⟨h1, _, h3⟩ := h
  have h4 : BitVec.extractLsb' (8 * (j % 8)) 8 0#64 = 5#8 := h3
  have : BitVec.extractLsb' (8 * (j % 8)) 8 0#64 = 0#8 := by
    apply BitVec.eq_of_toNat_eq
    simp
  rw [this] at h4
  exact absurd h4 (by decide)

/-- `FieldFunctions`: a field across bit 63 with a one at its top, and an empty one. -/
theorem witness_fields :
    (3#6 : BitVec 6).toNat ≤ (63#6 : BitVec 6).toNat ∧
      (0x8000000000000000#64 : Word).getLsbD ((60#6 : BitVec 6).toNat + 3) = true ∧
      (∀ j, 3 < j → j ≤ 63 → (0x8000000000000000#64 : Word).getLsbD ((60#6 : BitVec 6).toNat + j) = false) ∧
      (∀ j ≤ 63, (0#64 : Word).getLsbD ((60#6 : BitVec 6).toNat + j) = false) := by
  refine ⟨by decide, by decide, ?_, ?_⟩
  · intro j h1 h2
    exact BitVec.getLsbD_of_ge _ _ (by show 64 ≤ 60 + j; omega)
  · intro j _
    simp

/-- `WordFunctions`: the first and last row, column and field. -/
theorem witness_wordFunctions : (0 : Nat) < 8 ∧ (7 : Nat) < 8 ∧ firstField? 8 8 0x0500000000000000#64 5#8 = some 7 ∧
    firstField? 8 8 0#64 5#8 = none := by
  decide

/-- `FloatOrder`: numbers of either sign, both zeros, the least and the greatest fraction of a NaN and an infinity, which is
none, and a chain of three. -/
theorem witness_floatOrder :
    let nan := fun x : Word => x.toNat / 2 ^ 52 % 2048 = 2047 ∧ x.toNat % 2 ^ 52 ≠ 0
    ¬ nan 0x3FF0000000000000#64 ∧ ¬ nan 0xBFF0000000000000#64 ∧ ¬ nan 0x8000000000000000#64 ∧ ¬ nan 0x7FF0000000000000#64 ∧
      nan 0x7FF0000000000001#64 ∧ nan 0xFFFFFFFFFFFFFFFF#64 ∧ (0x8000000000000000#64 : Word).msb = true ∧
      fpCompare 0xBFF0000000000000#64 0#64 = .lt ∧ fpCompare 0#64 0x3FF0000000000000#64 = .lt := by
  decide

/-- `Coefficients`: the last coefficient and the first number beyond it, scalar and vector; VL at VLMAX and beyond. -/
theorem witness_coefficients :
    ((regs [(2, 12)]).reg 2#5).toNat < 13 ∧ 12 < ((regs [(2, 13)]).reg 2#5).toNat ∧
      (∀ e < fullVl.vl.toNat, fullVl.active fullVl.mods.maskSel e = true → (fullVl.srcA true 2#5 e).toNat < 13) ∧
      (∃ e < fullVl.vl.toNat, fullVl.active fullVl.mods.maskSel e = true ∧
        12 < ((withVec 2 [13] fullVl).srcA true 2#5 e).toNat) ∧
      fullVl.mods.fit .plain = true ∧ longVl.cfg.vlmax < longVl.vl.toNat := by
  refine ⟨by decide, by decide, ?_, ⟨0, by decide, by decide, by decide⟩, by decide, by decide⟩
  intro e _ _
  have : fullVl.srcA true 2#5 e = 0#64 := rfl
  rw [this]
  decide

/-- `Loads`, `Stores`, `StorePointer`, `InstructionsWithoutWord`: accesses of each size, the last one misaligned across the
top of the address space; the least reserved size and scale; a misused type code; byte 0 is memory's. -/
theorem witness_accesses :
    accessible State.reset .read 0xFFFFFFFFFFFFFFFF#64 1 ∧ accessible State.reset .write 0x1000#64 8 ∧
      accessible (splitting State.reset) .read 0xFFFFFFFFFFFFFFFF#64 8 ∧ State.reset.mods.fit .plain = true ∧
      State.reset.mods.fit .extended = true ∧ (exiState 1).mods.fit .extended = true ∧ (3#4 : BitVec 4).toNat < 4 ∧
      4 ≤ (4#4 : BitVec 4).toNat ∧ (4#4 : BitVec 4) ≠ 7#4 ∧ (1#3 : BitVec 3).toNat < 2 ∧ 2 ≤ (2#3 : BitVec 3).toNat ∧
      isVec 1#2 = true ∧ State.reset.isDevice 0 = false ∧
      ((∀ k < 8, 0x1000#64 >>> (8 * k) ≠ 0#64 → accessible State.reset .write (0x1000#64 >>> (8 * (k + 1))) 1)) :=
  ⟨reset_accessible _ _ _ _ rfl rfl (by decide), reset_accessible _ _ _ _ rfl rfl (by decide), reset_accessible _ _ _ _ rfl rfl (by decide),
    by decide, by decide, by decide, by decide, by decide, by decide, by decide, by decide, by decide, by decide,
    fun _ _ _ => reset_accessible _ _ _ _ rfl rfl (by simp [State.misaligned, Nat.mod_one])⟩

/-- `Loads`, `Stores`, `StorePointer`, `InstructionsWithoutWord`, `VectorLoads`, `VectorStores`: accesses that are misaligned,
unbacked and untranslated; an octa that memory backs with its first card byte where memory is not. -/
theorem witness_inaccessible :
    ¬ accessible State.reset .read 1#64 8 ∧ ¬ accessible State.reset .write 2#64 4 ∧ ¬ accessible smallMemory .read 0x1010#64 1 ∧
      ¬ accessible smallMemory .write 0x1010#64 8 ∧ ¬ accessible (tlbState 0) .read 0#64 8 ∧
      smallMemory.misaligned 0x1008#64 8 = false ∧ addressRefused (smallMemory.physical .write 0x100F#64) .unbackedAddress = false ∧
      (0x1008#64 : Word) >>> (8 * 0) ≠ 0#64 ∧ ¬ accessible smallMemory .write (0x1008#64 >>> (8 * (0 + 1))) 1 :=
  ⟨fun h => absurd h.1 (by decide), fun h => absurd h.1 (by decide),
    first_refused _ _ _ _ .unbackedAddress (by decide) (by decide), first_refused _ _ _ _ .unbackedAddress (by decide) (by decide),
    first_refused _ _ _ _ .noTranslation (by decide) (by decide), by decide, by decide, by decide,
    first_refused _ _ _ _ .unbackedAddress (by decide) (by decide)⟩

/-- `CacheCommands` and `TlbReadWrite`: debug mode; user mode under each treatment; a line's address that translates, and one that
does not; the last command and the first reserved one. -/
theorem witness_cacheAndTlb :
    3 ≤ State.reset.mode.index.val ∧ (userMode .refuse).mode.index.val < 3 ∧ (userMode .trap).cfg.sysPriv = .trap ∧
      (userMode .allow).cfg.sysPriv = .allow ∧ (2#3 : BitVec 3).toNat < 3 ∧ (4#3 : BitVec 3).toNat < 5 ∧
      3 ≤ (3#3 : BitVec 3).toNat ∧ 5 ≤ (5#3 : BitVec 3).toNat ∧ State.reset.mods.fit .plain = true ∧
      (match State.reset.translate .fetch 0x40#64 with | .ok p => decide (p = 0x40) | .error _ => false) = true ∧
      3 ≤ (tlbState 0).mode.index.val ∧ addressRefused ((tlbState 0).translate .fetch 0x40#64) .noTranslation = true := by
  decide

/-- `AddressesReachMemory`: the identity and the open function; by TLB an entry of way 1 that translates, where way 0 has
none, with and without the permission; no entry that does; a device's byte, memory's, and one that is neither. -/
theorem witness_translation :
    State.reset.cfg.translate = .identity ∧
      { State.reset with cfg := { Params.reset with translate := .other 2 } }.cfg.translate = .other 2 ∧
      (tlbState 0x87000000000003).cfg.translate = .tlb 0 ∧ (0x87000000000003#64 : Word).getLsbD 55 = true ∧
      (tlbState 0x87000000000003).tlbEntry 1#2 0#10 = 0x87000000000003#64 ∧
      (0x87000000000003#64 : Word).getLsbD 50 = true ∧ (0x81000000000003#64 : Word).getLsbD 50 = false ∧
      (0x81000000000003#64 : Word).getLsbD 48 = true ∧
      (0x87000000000003#64 : Word).extractLsb' 32 16 = (0x1234#64 : Word).extractLsb' 24 16 ∧
      (0x1234#64 : Word).toNat < 2 ^ 40 ∧ (tlbState 0x87000000000003).tlbEntry 0#2 0#10 = 0#64 ∧
      (∀ w < 4, (tlbState 0).tlbEntry (BitVec.ofNat 2 w) 0#10 = 0#64) ∧
      (∃ r ∈ (deviceState State.reset).cfg.mmio, r.base ≤ 0x80FF ∧ 0x80FF < r.base + r.size) ∧
      (∀ r ∈ State.reset.cfg.backed, ¬ 2 ^ 64 < r.base + r.size) := by
  decide

/-- `MemoryReadsLastStore`: a store under the identity; disjoint addresses; a device's byte; a misaligned address under the
refuse policy. -/
theorem witness_memory :
    (match State.reset.memWrite 0x1000#64 8 5#64 with | .ok _ => true | .error _ => false) = true ∧
      (∀ i < 8, ∀ j < 8, 0x1000#64 + BitVec.ofNat 64 i ≠ 0x1008#64 + BitVec.ofNat 64 j) ∧
      (∀ i < 8, State.reset.isDevice (0x1000#64 + BitVec.ofNat 64 i).toNat = false) ∧
      (∀ j < 8, (deviceState State.reset).isDevice (0x8000#64 + BitVec.ofNat 64 j).toNat = true) ∧
      State.reset.cfg.misaligned = .refuse ∧ (0x1001#64 : Word).toNat % 2 ≠ 0 := by
  decide

/-- `ConditionalBranches`, `Jumps`, `BoundsChecks`: without a modifier and with BRMOD; taken and not taken; within and
out of bounds. -/
theorem witness_flow :
    State.reset.mods.fit .branch = true ∧ (tailed (.brmod brmod)).mods.fit .branch = true ∧
      (tailed (.brmod brmod)).mods.tail = some (.brmod brmod) ∧ (regs [(1, 5), (2, 5)]).reg 1#5 = (regs [(1, 5), (2, 5)]).reg 2#5 ∧
      (regs [(1, 5)]).reg 1#5 ≠ (regs [(1, 5)]).reg 2#5 ∧ boundsHold 0#2 5#64 5#64 5#64 ∧ ¬ boundsHold 1#2 5#64 5#64 6#64 ∧
      ¬ boundsHold 2#2 4#64 5#64 5#64 := by
  refine ⟨by decide, by decide, by decide, by decide, by decide, ?_, ?_, ?_⟩ <;> simp [boundsHold]

/-- `ReturnFromException`, `BreakAndTrapSequence`, `WaitPollAndNop`: no modifier; a request and none; VL at VLMAX and beyond. -/
theorem witness_system :
    State.reset.mods.fit .plain = true ∧ (askedBy State.reset 9).irq = some 9#8 ∧ State.reset.irq = none ∧
      (askedBy State.reset 9).mods.fit .plain = true ∧ fullVl.mods.fit .plain = true ∧ fullVl.vl.toNat ≤ fullVl.cfg.vlmax ∧
      longVl.mods.fit .plain = true ∧ longVl.cfg.vlmax < longVl.vl.toNat := by
  decide

/-- `RedirectException`: from debug mode to machine mode, enabled and not; a target that is no lower mode; the open function. -/
theorem witness_redirect :
    Mode.machine.index.val = (3#6 : BitVec 6).toNat % 8 ∧ Mode.machine.index.val < (rexState true).mode.index.val ∧
      Mode.machine.index.val < 4 ∧ Mode.machine ≠ .debug ∧ (rexState true).cfg.rexEnabled = .table #v[true, true, true, true] ∧
      (rexState true).rexEnabled .machine = true ∧ (rexState false).rexEnabled .machine = false ∧
      { State.reset with cfg := { Params.reset with rexEnabled := .other 1 } }.cfg.rexEnabled = .other 1 ∧
      (rexState true).cfg.wf = true ∧ 4 ≤ (4#6 : BitVec 6).toNat % 8 ∧
      (userMode .allow).mode.index.val ≤ (0#6 : BitVec 6).toNat % 8 := by
  decide

/-- `ControlRegisters`: a mapped number, an unknown one, and one of a higher mode; registers that hold a word, of the modes and
of the numbers' own, and those that do not. -/
theorem witness_csr :
    (csrLookup (csrCfg .writes) 0x3001#14).isSome = true ∧ csrLookup (csrCfg .writes) 0x3002#14 = none ∧
      (userMode .allow).mode.index.val < ((0x3001#14 : BitVec 14).extractLsb' 12 2).toNat ∧
      State.reset.mods.fit .plain = true ∧ isVec 1#2 = true ∧ csrHolds .semaphores = true ∧ csrHolds (.tvec .debug) = true ∧
      csrHolds (.own 0x3FFF) = true ∧ csrHolds (.semaphore 63) = false ∧ CsrReg.own 5 ≠ CsrReg.own 6 := by
  decide

/-- `Queues`: an empty, a filled and a full queue. -/
theorem witness_queues :
    State.reset.mods.fit .plain = true ∧ (queueOf 0).queue 4#6 = [] ∧ ((queueOf 2).queue 4#6).length < (queueOf 2).cfg.queueDepth ∧
      ¬ ((queueOf 3).queue 4#6).length < (queueOf 3).cfg.queueDepth ∧ (2#6 : BitVec 6).msb = false ∧
      (32#6 : BitVec 6).msb = true := by
  decide

/-- `MaskOperations`, `MaskMoves`, `SetMaskComparisons`: no modifier; masks with a lowest and a highest bit; the last
condition and the first reserved one; VLMAX at most 128. -/
theorem witness_masks :
    fullVl.mods.fit .plain = true ∧ (withMask 1 6 State.reset).mask 1#3 = 6#128 ∧
      (6#128 : BitVec 128).getLsbD 1 = true ∧ (∀ j < 1, (6#128 : BitVec 128).getLsbD j = false) ∧
      (6#128 : BitVec 128).getLsbD 2 = true ∧ State.reset.cfg.vlmax ≤ 128 ∧ (3#3 : BitVec 3).toNat < 4 ∧
      4 ≤ (4#3 : BitVec 3).toNat ∧ ¬ fullVl.cfg.vlmax < fullVl.vl.toNat ∧ longVl.cfg.vlmax < longVl.vl.toNat := by
  decide

/-- `MaskedVectorMoves` and `VectorInsertAndSlide`: VL at VLMAX and beyond; the last element and the first number
beyond it; under an IMOD mask an element that is active and one that is not, and without a mask. -/
theorem witness_vectorMoves :
    fullVl.mods.fit .plain = true ∧ fullVl.vl.toNat ≤ fullVl.cfg.vlmax ∧ longVl.cfg.vlmax < longVl.vl.toNat ∧
      ((regs [(2, 63)]).reg 2#5).toNat < State.reset.cfg.vlmax ∧ State.reset.cfg.vlmax ≤ ((regs [(2, 64)]).reg 2#5).toNat ∧
      (r1 true).v = true ∧ (r2 true).v = true ∧ fullVl.mods.maskSel = none ∧
      (withMask 1 2 (tailed (.imod (imod 1)))).mods.fit .plain = true ∧
      masked (withMask 1 2 (tailed (.imod (imod 1)))) (tailed (.imod (imod 1))).mods.maskSel (fun _ => 7#64) 1 = some 7#64 ∧
      masked (withMask 1 2 (tailed (.imod (imod 1)))) (tailed (.imod (imod 1))).mods.maskSel (fun _ => 7#64) 2 = some 0#64 ∧
      masked (withMask 1 2 (tailed (.imod { imod 1 with z := false })))
        (tailed (.imod { imod 1 with z := false })).mods.maskSel (fun _ => 7#64) 2 = none := by
  decide

/-- `VectorLoads` and `VectorStores`: strided and indexed STRIDE words, VL at VLMAX and beyond, the greatest size and the
least reserved one, and accesses that all reach memory. -/
theorem witness_vectorMemory :
    (tailed (.stride (stride 0 1))).mods.fit .vectorMemory = true ∧
      (tailed (.stride (stride 0 1))).mods.tail = some (.stride (stride 0 1)) ∧ isVec (stride 1 0).tc = true ∧
      isVec (stride 2 0).tc = false ∧ State.reset.mods.fit .vectorMemory = true ∧ (3#4 : BitVec 4).toNat < 4 ∧
      4 ≤ (4#4 : BitVec 4).toNat ∧ longVl.cfg.vlmax < longVl.vl.toNat ∧ fullVl.vl.toNat ≤ fullVl.cfg.vlmax ∧
      (∀ x < fullVl.vl.toNat, accessible fullVl .read (BitVec.ofNat 64 (8 * x)) 8) ∧ zeroing (some (1#3, true)) = true :=
  ⟨by decide, by decide, by decide, by decide, by decide, by decide, by decide, by decide, by decide,
    fun x h => reset_accessible _ _ _ _ rfl rfl
      ((by decide : ∀ x < 64, fullVl.misaligned (BitVec.ofNat 64 (8 * x)) 8 = false) x h), by decide⟩

end Sys2Proof.Tests
end

/-! Every step keeps the invariant and the parameters (O4, O11), and the reset state has the invariant (O5). An
instruction runs while modifiers are pending, so what its updates keep is the invariant but for `noMods`; the laws of
Sys2Proof/Laws/Frames.lean lift that from the updates to instructions and bundles, `step_keeps` lifts it to the step. -/

namespace Sys2Proof.Machine

/-! ## What a step keeps -/

/-- The property is kept by every update that a step makes: those of instructions, the modifiers', the trap sequence,
the environment's input. -/
structure StepClosed (Q : State → Prop) : Prop where
  updates : Closed Q
  stores : StoreClosed Q
  system : SystemClosed Q
  mods : ∀ s m, Q s → Q { s with mods := m }
  trap : ∀ s k, Q s → Q (s.takeTrap k)
  input : ∀ s, Q s → Q s.nextInput

@[simp] theorem State.nextInput_mods (s : State) : s.nextInput.mods = s.mods := by
  rw [State.nextInput_frame]

@[simp] theorem State.nextInput_cfg (s : State) : s.nextInput.cfg = s.cfg := by
  rw [State.nextInput_frame]

/-- A step's next state is the boundary's, with the environment's next input. -/
theorem step_next {s t : State} (e : step s = .next t) : ∃ u, boundary s = .next u ∧ t = u.nextInput := by
  unfold step at e
  cases hb : boundary s with
  | next u =>
    rw [hb] at e
    cases e
    exact ⟨u, rfl, rfl⟩
  | fault r =>
    rw [hb] at e
    cases e
  | refused r =>
    rw [hb] at e
    cases e

/-- Where nothing waits, the interrupt is taken or the bundle at ip runs. -/
theorem interruptOrRun_cases (s : State) :
    (∃ c, interruptOrRun s = .next (s.takeTrap c)) ∨ interruptOrRun s = runBundle maxBundle s := by
  unfold interruptOrRun
  cases s.irq with
  | none => exact .inr rfl
  | some c =>
    cases s.interruptsEnabled
    · exact .inr rfl
    · exact .inl ⟨c, rfl⟩

/-- The boundary goes on waiting, takes the interrupt, or runs the bundle at ip; in the last two cases no wait is left. -/
theorem boundary_cases (s : State) :
    boundary s = .next s ∨ (∃ c, boundary s = .next ({ s with waiting := false }.takeTrap c)) ∨
      boundary s = runBundle maxBundle { s with waiting := false } := by
  have run := interruptOrRun_cases { s with waiting := false }
  by_cases hw : s.waiting = true
  · obtain hi | ⟨c, hi⟩ := Option.eq_none_or_eq_some s.irq
    · exact .inl (by simp only [boundary, hw, hi, if_true])
    · rw [show boundary s = interruptOrRun { s with waiting := false } by simp only [boundary, hw, hi, if_true]]
      exact .inr run
  · have hs : { s with waiting := false } = s := by rw [← Bool.eq_false_iff.2 hw]
    rw [show boundary s = interruptOrRun { s with waiting := false } by rw [hs, boundary, if_neg hw]]
    exact .inr run

/-- What every update of a step keeps, the step keeps, and it leaves no modifier pending where none was. -/
theorem step_keeps {Q : State → Prop} (c : StepClosed Q) {s t : State} (h : Q s) (e : step s = .next t) :
    Q t ∧ (s.mods = Mods.empty → t.mods = Mods.empty) := by
  obtain ⟨u, hu, rfl⟩ := step_next e
  rw [State.nextInput_mods]
  suffices hq : Q u ∧ (s.mods = Mods.empty → u.mods = Mods.empty) from ⟨c.input u hq.1, hq.2⟩
  have hw : Q { s with waiting := false } := c.updates.waiting s false h
  rcases boundary_cases s with hb | ⟨k, hb⟩ | hb <;> rw [hb] at hu
  · cases hu
    exact ⟨h, id⟩
  · cases hu
    exact ⟨c.trap _ _ hw, fun _ => rfl⟩
  · rcases runBundle_next c.updates c.mods c.stores c.system _ _ _ hw hu with ⟨hq, hm⟩ | ⟨k, x, rfl⟩
    · exact ⟨hq, fun _ => hm⟩
    · exact ⟨c.trap _ _ (c.mods _ x hw), fun _ => rfl⟩

/-! ## The parameters -/

/-- No update of a step changes the parameters. -/
theorem cfg_stepClosed (p : Params) : StepClosed (fun s => s.cfg = p) where
  updates :=
    { jump := fun _ _ h => h
      reg := fun s r w h => (s.setReg_cfg r w).trans h
      elems := fun _ _ _ _ h => h
      elem := fun _ _ _ _ _ h => h
      mask := fun _ _ _ h => h
      vl := fun _ _ h => h
      coeff := fun _ _ h => h
      push := fun _ _ _ _ h => h
      pop := fun _ _ _ _ _ h => h
      free := fun _ _ h => h
      waiting := fun _ _ h => h
      tlb := fun _ _ _ _ h => h
      dcache := fun _ _ h => h
      line := fun _ _ _ h => h
      fresh := fun _ h => h }
  stores := fun s _ _ p b _ h => (s.setByte_cfg p b).trans h
  system :=
    { rte := fun _ _ _ h => h
      rex := fun _ _ h => h
      csr := fun s r w h => (s.csrWrite_cfg r w).trans h }
  mods := fun _ _ h => h
  trap := fun _ _ h => h
  input := fun s h => s.nextInput_cfg.trans h

/-- Settles O11: `cfg` is among what every update of a step keeps. -/
theorem stepKeepsParameters : Obligations.StepKeepsParameters := by
  intro s t e
  exact (step_keeps (cfg_stepClosed s.cfg) rfl e).1

/-! ## The invariant -/

/-- The invariant of a state whose pending modifiers are used up. -/
def State.InvNoMods (s : State) : Prop := { s with mods := Mods.empty }.Inv

/-- The invariant is that but for pending modifiers, and none pending. -/
theorem State.inv_iff (s : State) : s.Inv ↔ s.InvNoMods ∧ s.mods = Mods.empty := by
  have same : s.mods = Mods.empty → { s with mods := Mods.empty } = s := fun hm => by rw [← hm]
  constructor
  · intro h
    refine ⟨?_, h.noMods⟩
    rwa [State.InvNoMods, same h.noMods]
  · rintro ⟨h, hm⟩
    rwa [State.InvNoMods, same hm] at h

/-- Cutting a value to QUEUE_WIDTH bits twice is cutting it once. -/
theorem queueValue_idem (p : Params) (w : Word) : queueValue p (queueValue p w) = queueValue p w := by
  simp only [queueValue, BitVec.and_assoc, BitVec.and_self]

/-- A queue holds what was put in its place; every other queue is unchanged. -/
theorem State.queue_setQueue (s : State) (q r : BitVec 6) (l : List Word) :
    (s.setQueue q l).queue r = if r = q then l else s.queue r := by
  by_cases h : r = q
  · subst h
    simp [State.queue, State.setQueue]
  · have hne : q.toNat ≠ r.toNat := fun e => h (BitVec.eq_of_toNat_eq e.symm)
    simp [State.queue, State.setQueue, h, hne]

/-- The elements below VLMAX are held at the keys that the invariant admits. -/
theorem elemKey_lt (r : RegNo) {e n : Nat} (he : e < n) : elemKey r e < 32 * n := by
  have := r.isLt
  simp only [elemKey]
  omega

/-- The keys of the TLB's four ways of 1024 entries. -/
theorem tlbKey_lt (way : BitVec 2) (entry : BitVec 10) : tlbKey way entry < 4096 := by
  have := way.isLt
  have := entry.isLt
  simp only [tlbKey]
  omega

/-- A write below a bound keeps the keys below it. -/
theorem sparseSet_keys_lt {α : Type} [DecidableEq α] (d : α) {m : List (Nat × α)} {a n : Nat}
    (hm : ∀ c ∈ m, c.1 < n) (ha : a < n) (v : α) : ∀ c ∈ sparseSet d m a v, c.1 < n := by
  intro c hc
  rcases sparseSet_mem d m a v c hc with rfl | hc
  · exact ha
  · exact hm c hc

/-- Every translation gives an address below 2^64. -/
theorem State.translate_lt {s : State} {k : Access} {a : Word} {p : Nat} (h : s.translate k a = .ok p) : p < 2 ^ 64 := by
  unfold State.translate at h
  split at h
  · cases h
    exact a.isLt
  · split at h
    · split at h
      · cases h
        exact Nat.lt_trans (BitVec.isLt _) (by decide)
      · cases h
    · cases h
  · split at h
    · cases h
      exact BitVec.isLt _
    · cases h

/-- Every access reaches a byte below 2^64. -/
theorem State.physical_lt {s : State} {k : Access} {a : Word} {p : Nat} (h : s.physical k a = .ok p) : p < 2 ^ 64 := by
  unfold State.physical at h
  split at h
  · cases h
  · rename_i q hq
    split at h
    · cases h
      exact State.translate_lt hq
    · cases h

namespace State.InvNoMods

variable {s : State}

theorem setReg (h : s.InvNoMods) (r : RegNo) (w : Word) : (s.setReg r w).InvNoMods := by
  unfold State.setReg
  split
  · exact h
  · rename_i hr
    have hne : r.toNat ≠ 0 := fun e => hr (BitVec.eq_of_toNat_eq e)
    exact { h with zero := (Vector.getElem_set_ne r.isLt (by decide) hne).trans h.zero }

theorem setElem (h : s.InvNoMods) (r : RegNo) {e : Nat} (he : e < s.cfg.vlmax) (w : Word) :
    (s.setElem r e w).InvNoMods :=
  { h with
    vregs := sparseSet_wf _ _ _ _ h.vregs
    vregsRange := sparseSet_keys_lt 0#64 h.vregsRange (elemKey_lt r he) w }

theorem setElems (h : s.InvNoMods) (hv : s.vlTooLong = false) (r : RegNo) (g : Nat → Option Word) :
    (s.setElems r s.vlen g).InvNoMods :=
  { h with
    vregs := sparseFill_wf _ _ _ _ _ h.vregs
    vregsRange := fun c hc => by
      rcases sparseFill_mem _ _ _ _ _ _ hc with hc | ⟨e, he, hk⟩
      · exact h.vregsRange c hc
      · have hl : s.vlen ≤ s.cfg.vlmax := Nat.le_of_not_lt (of_decide_eq_false hv)
        rw [hk]
        exact elemKey_lt r (Nat.lt_of_lt_of_le he hl) }

theorem setMask (h : s.InvNoMods) (m : MaskNo) (x : BitVec 128) : (s.setMask m x).InvNoMods :=
  { h with
    masks := fun q => by
      show (s.setMask m x).vm[q.toNat]'q.isLt = (s.setMask m x).mask q
      rw [State.mask_setMask]
      by_cases hq : q = m
      · subst hq
        simp [State.setMask]
      · have hne : m.toNat ≠ q.toNat := fun e => hq (BitVec.eq_of_toNat_eq e.symm)
        rw [if_neg hq]
        exact (Vector.getElem_set_ne m.isLt q.isLt hne).trans (h.masks q) }

theorem setQueue (h : s.InvNoMods) (q : BitVec 6) (l : List Word) (hl : l.length ≤ s.cfg.queueDepth)
    (hw : ∀ w ∈ l, queueValue s.cfg w = w) : (s.setQueue q l).InvNoMods :=
  { h with
    queueLength := fun r => by
      show ((s.setQueue q l).queue r).length ≤ s.cfg.queueDepth
      rw [State.queue_setQueue]
      split
      · exact hl
      · exact h.queueLength r
    queueWidth := fun r => by
      show ∀ w ∈ (s.setQueue q l).queue r, queueValue s.cfg w = w
      rw [State.queue_setQueue]
      split
      · exact hw
      · exact h.queueWidth r }

theorem push (h : s.InvNoMods) (q : BitVec 6) (w : Word) (hl : (s.queue q).length < s.cfg.queueDepth) :
    (s.setQueue q (s.queue q ++ [queueValue s.cfg w])).InvNoMods := by
  refine h.setQueue q _ (by simpa using hl) fun v hv => ?_
  rcases List.mem_append.1 hv with hv | hv
  · exact h.queueWidth q v hv
  · rw [List.mem_singleton.1 hv, queueValue_idem]

theorem pop (h : s.InvNoMods) (q : BitVec 6) {w : Word} {l : List Word} (hq : s.queue q = w :: l) :
    (s.setQueue q l).InvNoMods := by
  have hlen : (w :: l).length ≤ s.cfg.queueDepth := hq ▸ h.queueLength q
  have hwidth : ∀ v ∈ w :: l, queueValue s.cfg v = v := hq ▸ h.queueWidth q
  exact h.setQueue q l (Nat.le_of_succ_le hlen) fun v hv => hwidth v (List.mem_cons_of_mem _ hv)

theorem setTlb (h : s.InvNoMods) (way : BitVec 2) (entry : BitVec 10) (w : Word) :
    State.InvNoMods { s with tlb := sparseSet 0#64 s.tlb (tlbKey way entry) w } :=
  { h with
    tlb := sparseSet_wf _ _ _ _ h.tlb
    tlbRange := sparseSet_keys_lt 0#64 h.tlbRange (tlbKey_lt way entry) w }

theorem freshLine (h : s.InvNoMods) (n p : Nat) : State.InvNoMods { s with stale := freshLine n s.stale p } :=
  { h with
    stale := sparseFilter_wf _ _ _ h.stale
    staleRange := fun c hc => h.staleRange c (List.mem_filter.1 hc).1 }

theorem freshAll (h : s.InvNoMods) : State.InvNoMods { s with stale := [] } :=
  { h with
    stale := rfl
    staleRange := List.forall_mem_nil _ }

theorem setByte (h : s.InvNoMods) {p : Nat} (hp : p < 2 ^ 64) (b : Byte) : (s.setByte p b).InvNoMods := by
  unfold State.setByte
  split
  · exact { h with }
  · exact
      { h with
        mem := sparseSet_wf _ _ _ _ h.mem
        memRange := sparseSet_keys_lt unlistedByte h.memRange hp b
        stale := sparseSet_wf false s.stale p true h.stale
        staleRange := sparseSet_keys_lt false h.staleRange hp true }

theorem setCsr (h : s.InvNoMods) (n : BitVec 14) (w : Word) :
    State.InvNoMods { s with csrs := sparseSet 0#64 s.csrs n.toNat w } :=
  { h with
    csrs := sparseSet_wf _ _ _ _ h.csrs
    csrsRange := sparseSet_keys_lt 0#64 h.csrsRange n.isLt w }

/-- Of the registers that CSRs reach, the invariant speaks of the numbers' own only. -/
theorem csrWrite (h : s.InvNoMods) (r : CsrReg) (w : Word) : (s.csrWrite r w).InvNoMods := by
  cases r
  case own n => exact h.setCsr n w
  case other n => exact { h.setCsr n (Config.csrWriteBy n w s (.own n)) with }
  all_goals exact { h with }

theorem takeTrace (h : s.InvNoMods) (x : Option (List Word)) : (s.takeTrace x).InvNoMods := by
  cases x with
  | none => exact h
  | some l =>
    refine h.setQueue _ _ (List.length_take_le _ _) fun w hw => ?_
    obtain ⟨v, -, rfl⟩ := List.mem_map.1 (List.mem_of_mem_take hw)
    exact queueValue_idem _ v

theorem takeDevice (h : s.InvNoMods) (x : Option (List Host.Cell)) : (s.takeDevice x).InvNoMods := by
  cases x with
  | none => exact h
  | some l => exact { h with device := sparseSetAll_wf _ l [] rfl }

theorem nextInput (h : s.InvNoMods) : s.nextInput.InvNoMods := by
  unfold State.nextInput
  split
  · exact { h with }
  · rename_i x rest _
    have hx : State.InvNoMods { s with irq := x.irq, env := rest } := { h with }
    exact (hx.takeTrace _).takeDevice _

/-- Every update of a step keeps the invariant but for pending modifiers. -/
theorem stepClosed : StepClosed State.InvNoMods where
  updates :=
    { jump := fun _ _ h => { h with }
      reg := fun _ r w h => h.setReg r w
      elems := fun _ r g hv h => h.setElems hv r g
      elem := fun _ r _ w he h => h.setElem r he w
      mask := fun _ m x h => h.setMask m x
      vl := fun _ _ h => { h with }
      coeff := fun _ _ h => { h with }
      push := fun _ q w hl h => h.push q w hl
      pop := fun _ q _ _ hq h => h.pop q hq
      free := fun _ _ h => { h with }
      waiting := fun _ _ h => { h with }
      tlb := fun _ w e x h => h.setTlb w e x
      dcache := fun _ _ h => { h with }
      line := fun _ n p h => h.freshLine n p
      fresh := fun _ h => h.freshAll }
  stores := fun _ _ _ _ b hp h => h.setByte (State.physical_lt hp) b
  system :=
    { rte := fun _ _ _ h => { h with }
      rex := fun _ _ h => { h with }
      csr := fun _ r w h => h.csrWrite r w }
  mods := fun _ _ h => h
  trap := fun _ _ h => { h with }
  input := fun _ h => h.nextInput

end State.InvNoMods

/-- Settles O4: the invariant but for pending modifiers is kept by every update of a step, and a step leaves no modifier
pending. -/
theorem stepKeepsInvariant : Obligations.StepKeepsInvariant := by
  intro s t hs e
  obtain ⟨h, hm⟩ := (State.inv_iff s).1 hs
  obtain ⟨ht, htm⟩ := step_keeps State.InvNoMods.stepClosed h e
  exact (State.inv_iff t).2 ⟨ht, htm hm⟩

/-! ## The reset state -/

/-- At reset every queue is empty. -/
theorem reset_queue (q : BitVec 6) : State.reset.queue q = [] := Vector.getElem_replicate q.isLt

/-- At reset every mask is zero, so that cutting it to VLMAX bits changes nothing. -/
theorem reset_mask (m : MaskNo) : State.reset.vm[m.toNat]'m.isLt = State.reset.mask m := by
  have hz : State.reset.vm[m.toNat]'m.isLt = 0#128 := Vector.getElem_replicate m.isLt
  rw [State.mask, hz, BitVec.zero_and]

/-- Settles O5: at reset the sparse contents and the queues are empty, the registers zero, and the parameters of log 2 are
as R6 asks. -/
theorem resetHasInvariant : Obligations.ResetHasInvariant where
  params := by decide
  zero := rfl
  mem := reset_memory_wf
  memRange := List.forall_mem_nil _
  stale := rfl
  staleRange := List.forall_mem_nil _
  vregs := rfl
  vregsRange := List.forall_mem_nil _
  tlb := rfl
  tlbRange := List.forall_mem_nil _
  csrs := rfl
  csrsRange := List.forall_mem_nil _
  device := rfl
  masks := reset_mask
  queueLength := fun q => by rw [reset_queue]; exact Nat.zero_le _
  queueWidth := fun q => by rw [reset_queue]; exact List.forall_mem_nil _
  noMods := rfl

end Sys2Proof.Machine

/-! What one step runs (O7, O8): the instruction that the word at ip decodes to, what a fetch gives nybble by nybble, and
how a modifier word moves the bundle on by one word. -/

namespace Sys2Proof.Machine

/-! ## The word at ip -/

/-- Without pending modifiers the word that `exec` runs is the one at ip. -/
theorem State.ipWord_of_noMods {s : State} (hm : s.mods = Mods.empty) : s.ipWord = s.ip := by
  rw [State.ipWord, hm]
  exact BitVec.add_zero s.ip

/-- At a boundary without a wait or an enabled request the bundle at ip runs. -/
theorem boundary_runs {s : State} (hw : s.waiting = false) (hi : s.irq = none ∨ s.interruptsEnabled = false) :
    boundary s = runBundle maxBundle s := by
  rw [boundary, hw, if_neg Bool.false_ne_true, interruptOrRun]
  cases hq : s.irq with
  | none => rfl
  | some c =>
    have hoff : s.interruptsEnabled = false := hi.resolve_left (by rw [hq]; exact Option.some_ne_none c)
    simp only [hoff, Bool.false_eq_true, if_false]

/-- A refused fetch refuses the bundle. -/
theorem runBundle_fetch_error {s : State} {e : Refusal} (n : Nat) (hf : s.fetchCode s.ipWord = .error e) :
    runBundle (n + 1) s = .refused e := by
  simp only [runBundle, hf]

/-- The instruction that is no modifier ends the bundle. -/
theorem runBundle_instruction {s : State} {w : Code} {i : Instr} (n : Nat) (hf : s.fetchCode s.ipWord = .ok w)
    (hd : decode w = .ok i) (hi : isModifier i = false) : runBundle (n + 1) s = exec i s := by
  simp only [runBundle, hf, hd, hi, Bool.false_eq_true, if_false]

/-- Behind a modifier word the bundle goes on. -/
theorem runBundle_modifier {s t : State} {w : Code} {m : Instr} (n : Nat) (hf : s.fetchCode s.ipWord = .ok w)
    (hd : decode w = .ok m) (hm : isModifier m = true) (he : exec m s = .next t) :
    runBundle (n + 1) s = runBundle n t := by
  simp only [runBundle, hf, hd, hm, he, if_true]

/-! ## What a fetch gives -/

/-- A byte that translates for a fetch, is backed and is not stale, is fetched. -/
theorem State.fetchByte_fresh {s : State} {a : Word} {p : Nat} (hp : s.physical .fetch a = .ok p)
    (hs : sparseGet false s.stale p = false) : s.fetchByte a = .ok (s.byteAt p) := by
  simp only [State.fetchByte, hp, hs, Bool.false_eq_true, if_false]

/-- A nybble of a number is a nybble of the byte that holds it. -/
theorem nybble_of_byte (w m : Nat) : w / 256 ^ (m / 2) % 256 / 16 ^ (m % 2) % 16 = w / 16 ^ m % 16 := by
  have hm : (16 : Nat) ^ m = 256 ^ (m / 2) * 16 ^ (m % 2) := by
    rw [show (256 : Nat) = 16 ^ 2 from rfl, ← Nat.pow_mul, ← Nat.pow_add, Nat.div_add_mod]
  rw [hm, ← Nat.div_div_eq_div_mul]
  generalize w / 256 ^ (m / 2) = b
  rcases Nat.mod_two_eq_zero_or_one m with h | h <;> rw [h] <;> omega

/-- Nybble `k` of a bit vector, as a number. -/
theorem toNat_extractLsb'_nybble {n : Nat} (x : BitVec n) (k : Nat) :
    (x.extractLsb' (4 * k) 4).toNat = x.toNat / 16 ^ k % 16 := by
  rw [BitVec.extractLsb'_toNat, Nat.shiftRight_eq_div_pow, Nat.pow_mul]

/-- The byte that holds the nybble at nybble address `n + k` is one of those that the fetch at `n` reads. -/
theorem codeByte_eq (n : Word) (k : Nat) :
    codeByte n k = (n >>> 1) + BitVec.ofNat 64 ((n.toNat % 2 + k) / 2) := by
  apply BitVec.eq_of_toNat_eq
  simp only [codeByte, BitVec.toNat_add, BitVec.toNat_ofNat, BitVec.toNat_ushiftRight, Nat.shiftRight_eq_div_pow]
  omega

/-- The `i`-th byte that a fetch reads. -/
theorem codeByte_even (n : Word) (i : Nat) : codeByte n (2 * i) = (n >>> 1) + BitVec.ofNat 64 i := by
  rw [codeByte_eq]
  congr 2
  omega

/-- The low nine nybbles of a number are those of its 36 bits. -/
theorem nybble_mod (x : Nat) {k : Nat} (hk : k < 9) : x % 2 ^ 36 / 16 ^ k % 16 = x / 16 ^ k % 16 := by
  have hpow : 2 ^ 36 = 16 ^ k * 16 ^ (9 - k) := by
    rw [← Nat.pow_add, Nat.add_sub_cancel' (Nat.le_of_lt hk)]
    rfl
  have hdvd : 16 ∣ 16 ^ (9 - k) := dvd_pow_self 16 (Nat.sub_ne_zero_of_lt hk)
  rw [hpow, Nat.mod_mul_right_div_self, Nat.mod_mod_of_dvd _ hdvd]

/-- Nybble `k` of the word cut from the fetched bytes: from an odd nybble address the low half of the first byte is
skipped. -/
theorem fetchedWord_nybble (n : Word) (w : Nat) {k : Nat} (hk : k < 9) :
    ((BitVec.ofNat 36 (if n.getLsbD 0 then w / 16 else w)).extractLsb' (4 * k) 4).toNat =
      w / 16 ^ (n.toNat % 2 + k) % 16 := by
  rw [toNat_extractLsb'_nybble, BitVec.toNat_ofNat, nybble_mod _ hk]
  have hodd : n.getLsbD 0 = decide (n.toNat % 2 = 1) := Nat.testBit_zero n.toNat
  rcases Nat.mod_two_eq_zero_or_one n.toNat with h | h <;> rw [hodd, h]
  · rw [Nat.zero_add]
    rfl
  · rw [Nat.pow_add, ← Nat.div_div_eq_div_mul]
    rfl

theorem fetchInRange_iff (n : Word) : fetchInRange n = true ↔ n.toNat + 9 ≤ 2 ^ 64 := decide_eq_true_iff

/-- What `fetchCode` answers is what `fetched` asks (R36, R81 to R83, R95): where the five bytes are fetched, nybble `k` is
found in byte `(n % 2 + k) / 2` of them; where they are not, one of them says why. -/
theorem fetchCode_fetched (s : State) (n : Word) : fetched s n (s.fetchCode n) := by
  unfold fetched State.fetchCode
  by_cases hn : 2 ^ 64 < n.toNat + 9
  · rw [if_pos hn, if_neg (fun h => Nat.not_le.2 hn ((fetchInRange_iff n).1 h))]
  rw [if_neg hn, if_pos ((fetchInRange_iff n).2 (Nat.not_lt.1 hn))]
  cases hb : s.fetchBytes (n >>> 1) 5 with
  | error e =>
    obtain ⟨i, hi, he⟩ := State.fetchBytes_error hb
    rw [← codeByte_even] at he
    refine ⟨fun hall => ?_, fun _ => ⟨e, rfl, i, hi, State.fetchByte_error he⟩⟩
    obtain ⟨p, hp, hs⟩ := hall i hi
    rw [State.fetchByte_fresh hp hs] at he
    cases he
  | ok w =>
    have hbyte := State.fetchBytes_ok hb
    refine ⟨fun _ => ⟨_, rfl, fun k hk p hp => ?_⟩, fun ⟨i, hi, hno⟩ => ?_⟩
    · obtain ⟨b, hf, hw⟩ := hbyte ((n.toNat % 2 + k) / 2) (by omega)
      rw [← codeByte_eq] at hf
      obtain ⟨q, hq, -, rfl⟩ := State.fetchByte_ok hf
      rw [hp] at hq
      cases hq
      apply BitVec.eq_of_toNat_eq
      rw [fetchedWord_nybble n w hk, toNat_extractLsb'_nybble, ← hw, ← nybble_of_byte, Nat.mod_add_mod]
    · obtain ⟨b, hf, -⟩ := hbyte i hi
      rw [← codeByte_even] at hf
      obtain ⟨p, hp, hs, -⟩ := State.fetchByte_ok hf
      exact absurd ⟨p, hp, hs⟩ hno

/-- Settles O7: the boundary runs the bundle, whose one word is the instruction's; the fetch is `fetchCode_fetched`. -/
theorem stepRunsDecoded : Obligations.StepRunsDecoded := by
  refine ⟨fun s w i hw hi hm hf hd hmod => ?_, fun s e hw hi hm hf => ?_, fetchCode_fetched⟩
  · rw [← State.ipWord_of_noMods hm] at hf
    rw [step, boundary_runs hw hi, maxBundle, runBundle_instruction 4 hf hd hmod]
  · rw [← State.ipWord_of_noMods hm] at hf
    rw [step, boundary_runs hw hi, maxBundle, runBundle_fetch_error 4 hf]
    rfl

/-! ## Modifier words -/

theorem tailOp_count {x : ModTail} {s t : State} (h : tailOp x s = .next t) : t.mods.count = s.mods.count + 1 := by
  unfold tailOp at h
  split at h
  · rename_i hs
    cases h
    simp [Mods.count, hs]
  · cases h

/-- A modifier word is one more of the modifiers read. -/
theorem exec_modifier_count {i : Instr} {s t : State} (hm : isModifier i = true) (h : exec i s = .next t) :
    t.mods.count = s.mods.count + 1 := by
  cases i <;> try cases hm
  case exi0 p =>
    simp only [exec, execExi0] at h
    split at h <;> cases h
    rename_i hs
    simp [Mods.count, hs, Mods.empty]
  case exi1 p =>
    simp only [exec, execExi1] at h
    split at h <;> cases h
    rename_i hs
    simp [Mods.count, hs, Nat.add_right_comm]
  case exi2 p =>
    simp only [exec, execExi2] at h
    split at h <;> cases h
    rename_i hs
    simp [Mods.count, hs]
  all_goals exact tailOp_count h

/-- Settles O8: a modifier changes the pending modifiers alone and their number grows by one. -/
theorem modifierContinuesBundle : Obligations.ModifierContinuesBundle := by
  refine ⟨fun n s t w m hf hd hm he => ?_, fun n s e hf => runBundle_fetch_error n hf⟩
  have hcount := exec_modifier_count hm he
  obtain ⟨x, rfl⟩ := exec_modifier hm he
  refine ⟨rfl, ?_, runBundle_modifier n hf hd hm he⟩
  rw [State.ipWord, hcount, Nat.mul_add, BitVec.ofNat_add, ← BitVec.add_assoc]
  rfl

end Sys2Proof.Machine

/-! Registers, jumps, CSRs, the TLB and the exception registers (O13, O14, O43, O48, O51): first what each of the
operations concerned does, then the statements. -/

namespace Sys2Proof.Machine

/-! ## The zero register -/

/-- A write to x0 changes nothing (R31). -/
@[simp] theorem State.setReg_zero (s : State) (w : Word) : s.setReg 0#5 w = s := if_pos rfl

/-- A register other than x0 reads what was written to it. -/
theorem State.reg_setReg_same (s : State) {r : RegNo} (hr : r ≠ 0#5) (w : Word) : (s.setReg r w).reg r = w := by
  rw [State.reg_setReg, if_neg hr, if_pos rfl]

/-- A write reaches no second register. -/
theorem State.reg_setReg_other (s : State) {r q : RegNo} (hq : q ≠ r) (w : Word) : (s.setReg r w).reg q = s.reg q := by
  rw [State.reg_setReg, if_neg hq]
  split
  · subst q
    exact s.reg_zero.symm
  · rfl

/-- Settles O14: x0 and the written register, and every other one. -/
theorem zeroRegister : Obligations.ZeroRegister :=
  fun s _ _ w => ⟨s.reg_zero, s.setReg_zero w, fun hr => s.reg_setReg_same hr w, fun hq => s.reg_setReg_other hq w⟩

/-! ## The exception registers -/

/-- The registers that say the mode and describe exceptions: PMSTACK, cause, badaddr, EIP, tvec and the semaphores. -/
def State.systemRegs (s : State) : Word × Vector Word 5 × Vector Word 5 × Word × Vector Word 5 × BitVec 64 :=
  (s.pmstack, s.cause, s.badaddr, s.eip, s.tvec, s.sem)

@[simp] theorem State.setReg_systemRegs (s : State) (r : RegNo) (w : Word) :
    (s.setReg r w).systemRegs = s.systemRegs := by
  simp only [State.systemRegs, State.setReg_pmstack, State.setReg_cause, State.setReg_badaddr, State.setReg_eip,
    State.setReg_tvec, State.setReg_sem]

@[simp] theorem State.setByte_systemRegs (s : State) (p : Nat) (b : Byte) :
    (s.setByte p b).systemRegs = s.systemRegs := by
  simp only [State.systemRegs, State.setByte_pmstack, State.setByte_cause, State.setByte_badaddr, State.setByte_eip,
    State.setByte_tvec, State.setByte_sem]

/-- The updates of instructions that are no system control keep the exception registers. -/
theorem systemRegs_closed (s : State) : Closed (fun t => t.systemRegs = s.systemRegs) where
  jump := fun _ _ h => h
  reg := fun t r w h => (t.setReg_systemRegs r w).trans h
  elems := fun _ _ _ _ h => h
  elem := fun _ _ _ _ _ h => h
  mask := fun _ _ _ h => h
  vl := fun _ _ h => h
  coeff := fun _ _ h => h
  push := fun _ _ _ _ h => h
  pop := fun _ _ _ _ _ h => h
  free := fun _ _ h => h
  waiting := fun _ _ h => h
  tlb := fun _ _ _ _ h => h
  dcache := fun _ _ h => h
  line := fun _ _ _ h => h
  fresh := fun _ h => h

/-- Stores keep the exception registers. -/
theorem systemRegs_storeClosed (s : State) : StoreClosed (fun t => t.systemRegs = s.systemRegs) :=
  fun t _ _ p b _ h => (t.setByte_systemRegs p b).trans h

/-- An instruction that is no system control keeps the exception registers, or takes an exception. -/
theorem exec_systemRegs {i : Instr} {s t : State} (hi : isSystemControl i = false) (e : exec i s = .next t) :
    t.systemRegs = s.systemRegs ∨ ∃ c, t = s.takeTrap c := by
  cases hm : isModifier i with
  | true =>
    obtain ⟨m, rfl⟩ := exec_modifier hm e
    exact .inl rfl
  | false =>
    have noControl : isSystemControl i = true → SystemClosed (fun t => t.systemRegs = s.systemRegs) := fun hc =>
      absurd hc (Bool.eq_false_iff.1 hi)
    have fine := exec_fine (systemRegs_closed s) rfl i hm (fun _ => systemRegs_storeClosed s) noControl
    exact (fine.next_cases t e).imp And.left id

/-- Settles O13: outside system control an instruction's updates keep the exception registers, so that they change by the
trap sequence only. -/
theorem onlySystemControlChangesMode : Obligations.OnlySystemControlChangesMode := by
  intro i s t hi e
  rcases exec_systemRegs hi e with h | ⟨c, rfl⟩
  · simp only [State.systemRegs, Prod.mk.injEq] at h
    exact .inl h
  · exact .inr ⟨_, trapped_takeTrap s c⟩

/-! ## Jumps -/

/-- A sign-extended offset adds as an integer. -/
theorem add_sext (x : Word) {n : Nat} (d : BitVec n) : x + sext d = BitVec.ofInt 64 (x.toInt + d.toInt) := by
  rw [sext_ofInt, BitVec.ofInt_add, BitVec.ofInt_toInt]

/-- A jump goes to its target and links nothing. -/
theorem jump_jumps (s : State) (target : Word) : nextWith (.next (s.jump target)) (onlyJumped target s) :=
  ⟨_, rfl, onlyJumped_jump s target⟩

/-- A linking jump writes the link to the register of its two-bit field. -/
theorem linkJump_links (r : BitVec 2) (link target : Word) (s : State) :
    nextWith (linkJump r link target s) (linkedAndJumped (BitVec.ofNat 5 r.toNat) link target s) := by
  rw [BitVec.ofNat_toNat]
  exact ⟨_, rfl, linkedAndJumped_setReg s _ link target⟩

/-- A vector register has no value in a scalar position. -/
theorem State.scalarSpec_vector (s : State) {ty : BitVec 2} (r : RegNo) (h : isVec ty = true) :
    s.scalarSpec ty r = none := if_pos h

/-- Any other register spec has its value in a scalar position. -/
theorem State.scalarSpec_scalar (s : State) {ty : BitVec 2} (r : RegNo) (h : ¬ isVec ty = true) :
    s.scalarSpec ty r = some (s.srcSpec .signed ty r 0) := if_neg h

section Jumps
variable {s : State} (hs : s.mods.fit .plain = true)
include hs

/-- JAL (R475). -/
theorem exec_jal_links (c : BitVec 26) (r : BitVec 2) :
    nextWith (exec (.jal c r) s) (linkedAndJumped (BitVec.ofNat 5 r.toNat) s.ipNext (BitVec.ofNat 64 c.toNat) s) := by
  show nextWith (execJal c r s) _
  rw [execJal, withMods_fit _ _ _ hs, zext_ofNat]
  exact linkJump_links ..

/-- JMP (R475). -/
theorem exec_jmp_jumps (c : BitVec 26) : nextWith (exec (.jmp c) s) (onlyJumped (BitVec.ofNat 64 c.toNat) s) := by
  show nextWith (execJmp c s) _
  rw [execJmp, withMods_fit _ _ _ hs, zext_ofNat]
  exact jump_jumps ..

/-- BAL (R472). -/
theorem exec_bal_links (c : BitVec 26) (r : BitVec 2) :
    nextWith (exec (.bal c r) s)
      (linkedAndJumped (BitVec.ofNat 5 r.toNat) s.ipNext (BitVec.ofInt 64 (s.ipWord.toInt + c.toInt)) s) := by
  show nextWith (execBal c r s) _
  rw [execBal, withMods_fit _ _ _ hs, add_sext]
  exact linkJump_links ..

/-- BRA (R473). -/
theorem exec_bra_jumps (c : BitVec 26) :
    nextWith (exec (.bra c) s) (onlyJumped (BitVec.ofInt 64 (s.ipWord.toInt + c.toInt)) s) := by
  show nextWith (execBra c s) _
  rw [execBra, withMods_fit _ _ _ hs, add_sext]
  exact jump_jumps ..

/-- BSR (R473): the link register is x1. -/
theorem exec_bsr_links (c : BitVec 26) :
    nextWith (exec (.bsr c) s) (linkedAndJumped 1#5 s.ipNext (BitVec.ofInt 64 (s.ipWord.toInt + c.toInt)) s) := by
  show nextWith (execBsr c s) _
  rw [execBsr, withMods_fit _ _ _ hs, add_sext]
  exact linkJump_links ..

/-- RET (R478). -/
theorem exec_ret_jumps : nextWith (exec .ret s) (onlyJumped (s.reg 1#5) s) := by
  show nextWith (execRet s) _
  rw [execRet, withMods_fit _ _ _ hs]
  exact jump_jumps ..

/-- JALR with a vector base (R172; log 13). -/
theorem exec_jalr_raises (f : JalrF) (hv : isVec f.ta2 = true) :
    nextWith (exec (.jalr f) s) (raisedUnimplemented s) := by
  show nextWith (execJalr f s) _
  rw [execJalr, withMods_fit _ _ _ hs, s.scalarSpec_vector _ hv]
  exact misuse_raises s

/-- JALR with a scalar base (R477): a scalar x31 is the instruction's own address (R33). -/
theorem exec_jalr_links (f : JalrF) (hv : ¬ isVec f.ta2 = true) :
    nextWith (exec (.jalr f) s) (linkedAndJumped (BitVec.ofNat 5 f.rt2.toNat)
      (s.ipWord + BitVec.ofNat 64 (2 * f.cnst5.toNat))
      (BitVec.ofInt 64 ((if f.ta2 = 0#2 ∧ f.ra = 31#5 then s.ipWord else s.srcSpec .signed f.ta2 f.ra 0).toInt +
        f.c14.toInt)) s) := by
  show nextWith (execJalr f s) _
  rw [execJalr, withMods_fit _ _ _ hs, s.scalarSpec_scalar _ hv, BitVec.ofNat_mul, ← zext_ofNat, ← add_sext]
  exact linkJump_links ..

end Jumps

/-- Settles O43: each jump by its own lemma. -/
theorem jumps : Obligations.Jumps := by
  intro s c r hs
  refine ⟨exec_jal_links hs c r, exec_jmp_jumps hs c, exec_bal_links hs c r, exec_bra_jumps hs c, exec_bsr_links hs c,
    exec_ret_jumps hs, fun f => ?_⟩
  split
  · exact exec_jalr_raises hs f ‹_›
  · exact exec_jalr_links hs f ‹_›

/-! ## The TLB -/

/-- The entries of the TLB are held apart. -/
theorem tlbKey_inj (w v : BitVec 2) (e d : BitVec 10) : tlbKey w e = tlbKey v d ↔ w = v ∧ e = d := by
  have he := e.isLt
  have hd := d.isLt
  simp only [tlbKey, ← BitVec.toNat_inj]
  omega

/-- TLBRW's write (R524): the entry that `sel` selects takes `w` if bit 63 of `sel` is set. -/
def State.tlbSelWrite (s : State) (sel w : Word) : State :=
  if sel.getLsbD 63 then
    { s with tlb := sparseSet 0#64 s.tlb (tlbKey (sel.extractLsb' 10 2) (sel.extractLsb' 0 10)) w }
  else s

/-- TLBRW's write changes nothing but the TLB. -/
theorem State.tlbSelWrite_frame (s : State) (sel w : Word) :
    s.tlbSelWrite sel w = { s with tlb := (s.tlbSelWrite sel w).tlb } := by
  unfold State.tlbSelWrite
  split <;> rfl

/-- The selected entry reads what TLBRW wrote to it; no other entry changes. -/
theorem State.tlbEntry_tlbSelWrite (s : State) (sel w : Word) (v : BitVec 2) (d : BitVec 10) :
    (s.tlbSelWrite sel w).tlbEntry v d =
      if sel.msb = true ∧ v = sel.extractLsb' 10 2 ∧ d = sel.extractLsb' 0 10 then w else s.tlbEntry v d := by
  have hmsb : sel.msb = sel.getLsbD 63 := sel.msb_eq_getLsbD_last
  unfold State.tlbSelWrite
  by_cases hw : sel.getLsbD 63 = true
  · rw [if_pos hw]
    simp only [State.tlbEntry, sparseGet_set, tlbKey_inj, hmsb, hw, true_and, eq_comm (a := v), eq_comm (a := d)]
  · rw [if_neg hw, if_neg (fun h => hw (hmsb ▸ h.1))]

/-- At machine mode and above, or where sys_priv allows it, the instruction runs (R652). -/
theorem withSysPriv_allowed {s : State} (k : Out) (h : 3 ≤ s.mode.index.val ∨ s.cfg.sysPriv = .allow) :
    withSysPriv s k = k := by
  unfold withSysPriv
  rcases h with h | h
  · rw [if_neg (Nat.not_lt.2 h)]
  · simp only [h, ite_self]

/-- Below machine mode sys_priv can have it trap (log 12). -/
theorem withSysPriv_trap {s : State} (k : Out) (hl : s.mode.index.val < 3) (h : s.cfg.sysPriv = .trap) :
    withSysPriv s k = .next (s.raise .privilegeViolation) := by
  simp only [withSysPriv, if_pos hl, h]

/-- Below machine mode sys_priv can have it refused (R652). -/
theorem withSysPriv_refuse {s : State} (k : Out) (hl : s.mode.index.val < 3) (h : s.cfg.sysPriv = .refuse) :
    withSysPriv s k = .refused .privilegeUnstated := by
  simp only [withSysPriv, if_pos hl, h]

/-- TLBRW under modifiers it takes: misuse of a vector register, or the write and the read behind sys_priv. -/
theorem exec_tlbrw {s : State} (hs : s.mods.fit .plain = true) (f : SysF) :
    exec (.tlbrw f) s =
      if f.ra6.msb = true ∨ f.rb6.msb = true ∨ f.rt6.msb = true then misuse s
      else
        withSysPriv s (.next
          ((s.tlbSelWrite (s.reg (f.ra6.setWidth 5)) (s.reg (f.rb6.setWidth 5))).setReg (f.rt6.setWidth 5)
            (s.tlbEntry ((s.reg (f.ra6.setWidth 5)).extractLsb' 10 2)
              ((s.reg (f.ra6.setWidth 5)).extractLsb' 0 10))).advance) := by
  show execTlbrw f s = _
  rw [execTlbrw, withMods_fit _ _ _ hs]
  simp only [sysVec_eq, sysReg_eq, Bool.or_eq_true, or_assoc]
  rfl

/-- Settles O51: sys_priv by its three treatments; where TLBRW runs, its write's frame and its read. -/
theorem tlbReadWrite : Obligations.TlbReadWrite := by
  intro f s hs
  rw [exec_tlbrw hs]
  by_cases hv : f.ra6.msb = true ∨ f.rb6.msb = true ∨ f.rt6.msb = true
  · rw [if_pos hv, if_pos hv]
    exact misuse_raises s
  rw [if_neg hv, if_neg hv]
  refine ⟨fun hl h => withSysPriv_refuse _ hl h, fun hl h => ?_, fun h => ?_⟩
  · rw [withSysPriv_trap _ hl h]
    exact ⟨_, rfl, trapped_takeTrap s _⟩
  · rw [withSysPriv_allowed _ h]
    exact ⟨_, rfl, _, ⟨s.tlbSelWrite_frame _ _, s.tlbEntry_tlbSelWrite _ _⟩, wroteReg_setReg ..⟩

/-! ## CSRs -/

/-- What a CSR instruction answers in each of its cases. -/
theorem csrOp_form (op2 : BitVec 2) (c : CsrF → Instr) (hc : ∀ f s, exec (c f) s = csrOp op2 f s) : csrForm op2 c := by
  intro f s hs
  rw [hc, csrOp, withMods_fit _ _ _ hs]
  by_cases hv : op2 ≠ 0#2 ∧ isVec f.ta2 = true
  · rw [if_pos hv, if_pos hv]
    exact misuse_raises s
  rw [if_neg hv, if_neg hv]
  by_cases hp : s.mode.index.val < (f.regno.extractLsb' 12 2).toNat
  · rw [if_pos hp, if_pos hp]
    exact ⟨_, rfl, trapped_takeTrap s _⟩
  rw [if_neg hp, if_neg hp]
  cases csrLookup s.cfg f.regno with
  | none => exact misuse_raises s
  | some d =>
    dsimp only
    by_cases hr : op2 = 0#2
    · rw [if_pos hr, if_pos hr]
      exact ⟨_, rfl, wroteReg_setReg ..⟩
    rw [if_neg hr, if_neg hr]
    by_cases hb : op2 ≠ 1#2 ∧ d.setClear = false
    · rw [if_pos hb, if_pos hb]
    rw [if_neg hb, if_neg hb]
    cases d.onWrite with
    | writes => exact ⟨_, rfl, wroteReg_setReg ..⟩
    | ignored => exact ⟨_, rfl, wroteReg_setReg ..⟩
    | raises => exact ⟨_, rfl, trapped_takeTrap s _⟩

/-- A mode is known by its number. -/
theorem mode_ofIndex_index (m : Mode) : Mode.ofIndex m.index = m := by cases m <;> rfl

/-- Different modes have different numbers. -/
theorem mode_index_ne {m k : Mode} (h : m ≠ k) : m.index.val ≠ k.index.val := fun e =>
  h (by rw [← mode_ofIndex_index m, Fin.ext e, mode_ofIndex_index])

/-- A write to one mode's register leaves the other four. -/
theorem modeRegs_set_other (v : Vector Word 5) {m k : Mode} (h : k ≠ m) (w : Word) :
    (v.set m.index.val w m.index.isLt)[k.index.val] = v[k.index.val] :=
  Vector.getElem_set_ne m.index.isLt k.index.isLt (mode_index_ne h.symm)

/-- The five modes' registers, given by a function of the modes. -/
theorem modeRegs_ofFn (g : Mode → Word) (m : Mode) :
    (Vector.ofFn (fun i : Fin 5 => g (Mode.ofIndex i)))[m.index.val] = g m := by
  rw [Vector.getElem_ofFn]
  exact congrArg g (mode_ofIndex_index m)

/-- The registers of CSR numbers' own, after a write to that of number `n`. -/
theorem ownRegs_set (l : List (Nat × Word)) (n k : BitVec 14) (w : Word) :
    sparseGet 0#64 (sparseSet 0#64 l n.toNat w) k.toNat = if k = n then w else sparseGet 0#64 l k.toNat := by
  simp only [sparseGet_set, BitVec.toNat_inj, eq_comm (a := n)]

/-- The lowest bit of a word, as a word. -/
theorem and_one_eq (x : Word) : x &&& 1#64 = if x.getLsbD 0 then 1#64 else 0#64 := by
  rw [BitVec.and_one_eq_setWidth_ofBool_getLsbD]
  cases x.getLsbD 0 <;> rfl

section Csr
variable (s : State) (w : Word)

/-- A register that holds a word reads what was written to it. -/
theorem State.csrRead_csrWrite_same {r : CsrReg} (hr : csrHolds r = true) : (s.csrWrite r w).csrRead r = w := by
  cases r with
  | pmstack | eip | vl | semaphores => rfl
  | cause m | badaddr m | tvec m => exact Vector.getElem_set_self m.index.isLt
  | own n => exact (ownRegs_set s.csrs n n w).trans (if_pos rfl)
  | semaphore n | dcacheEnable | other n => cases hr

/-- A write, but for the open one, leaves every other register that holds a word, but for the word of all semaphores where
one of them is written: two registers share a field of the state only where both are of a mode or both of a number, and
there the indices differ. -/
theorem State.csrRead_csrWrite_other {r q : CsrReg} (hq : csrHolds q = true) (hne : q ≠ r) (ho : ∀ n, r ≠ .other n)
    (hsem : ∀ n, r = .semaphore n → q ≠ .semaphores) : (s.csrWrite r w).csrRead q = s.csrRead q := by
  cases r with
  | other n => exact absurd rfl (ho n)
  | own n => cases q <;> simp_all [csrHolds, State.csrRead, State.csrWrite, ownRegs_set]
  | cause m | badaddr m | tvec m => cases q <;> simp_all [csrHolds, State.csrRead, State.csrWrite, modeRegs_set_other]
  | pmstack | eip | vl | semaphores | semaphore n | dcacheEnable =>
    cases q <;> simp_all [csrHolds, State.csrRead, State.csrWrite]

/-- What a register that holds a word reads after a write to one that does. -/
theorem State.csrRead_csrWrite {r q : CsrReg} (hr : csrHolds r = true) (hq : csrHolds q = true) :
    (s.csrWrite r w).csrRead q = if q = r then w else s.csrRead q := by
  split
  · subst q
    exact s.csrRead_csrWrite_same w hr
  · refine s.csrRead_csrWrite_other w hq ‹_› ?_ ?_
    · rintro n rfl
      cases hr
    · rintro n rfl
      cases hr

/-- The data-cache enable is no part of a register that holds a word. -/
theorem State.csrWrite_dcacheEnable {r : CsrReg} (hr : csrHolds r = true) :
    (s.csrWrite r w).dcacheEnable = s.dcacheEnable := by
  cases r with
  | semaphore n | dcacheEnable | other n => cases hr
  | _ => rfl

/-- A semaphore reads as its bit. -/
theorem State.csrRead_semaphore (n : BitVec 6) :
    s.csrRead (.semaphore n) = if s.sem.getLsbD n.toNat then 1#64 else 0#64 := by
  show (s.sem >>> n.toNat) &&& 1#64 = _
  rw [and_one_eq, BitVec.getLsbD_ushiftRight, Nat.add_zero]

/-- A write to a semaphore sets its bit and no other. -/
theorem State.sem_csrWrite_semaphore (n m : BitVec 6) :
    (s.csrWrite (.semaphore n) w).sem.getLsbD m.toNat = if m = n then w.getLsbD 0 else s.sem.getLsbD m.toNat := by
  show ((s.sem &&& ~~~(1#64 <<< n.toNat)) ||| ((w &&& 1#64) <<< n.toNat)).getLsbD m.toNat = _
  have hm : m.toNat < 64 := m.isLt
  by_cases he : m = n
  · subst m
    simp [hm]
  · have hne : m.toNat ≠ n.toNat := fun e => he (BitVec.eq_of_toNat_eq e)
    rcases Nat.lt_or_gt_of_ne hne with h | h
    · simp [hm, he, h]
    · simp [hm, he, Nat.not_lt_of_gt h, Nat.sub_ne_zero_of_lt h]

/-- What the open write gives to each register that holds a word, but for the numbers' own registers of other numbers. -/
theorem State.csrRead_csrWrite_open (n : BitVec 14) {q : CsrReg} (hq : csrHolds q = true) :
    (s.csrWrite (.other n) w).csrRead q =
      if ∃ m, q = .own m ∧ m ≠ n then s.csrRead q else Config.csrWriteBy n w s q := by
  cases q with
  | semaphore k | dcacheEnable | other k => cases hq
  | own k =>
    have h : (∃ m, CsrReg.own k = .own m ∧ m ≠ n) ↔ k ≠ n := by simp
    refine (ownRegs_set s.csrs n k _).trans ?_
    by_cases hk : k = n
    · rw [if_pos hk, if_neg (fun e => h.1 e hk), hk]
    · rw [if_neg hk, if_pos (h.2 hk)]
      rfl
  | pmstack | eip | vl | semaphores => exact (if_neg nofun).symm
  | cause m => exact (modeRegs_ofFn (fun k => Config.csrWriteBy n w s (.cause k)) m).trans (if_neg nofun).symm
  | badaddr m => exact (modeRegs_ofFn (fun k => Config.csrWriteBy n w s (.badaddr k)) m).trans (if_neg nofun).symm
  | tvec m => exact (modeRegs_ofFn (fun k => Config.csrWriteBy n w s (.tvec k)) m).trans (if_neg nofun).symm

end Csr

/-- Settles O48: the instructions by their shared operation; then what each kind of register reads after a write. -/
theorem controlRegisters : Obligations.ControlRegisters := by
  refine ⟨csrOp_form _ _ fun _ _ => rfl, csrOp_form _ _ fun _ _ => rfl, csrOp_form _ _ fun _ _ => rfl,
    csrOp_form _ _ fun _ _ => rfl, fun op2 => csrOp_form op2 _ fun _ _ => rfl, fun s w => ?_⟩
  refine ⟨fun r => ⟨_, rfl, s.csrWrite_frame r w⟩, fun r q hr hq => s.csrRead_csrWrite w hr hq,
    fun r hr => s.csrWrite_dcacheEnable w hr, fun n => ?semaphore, rfl, rfl, fun q hq => ?dcache, fun n => ?other⟩
  case semaphore =>
    refine ⟨s.csrRead_semaphore n, s.sem_csrWrite_semaphore w n, fun q hq hne => ?_, rfl⟩
    exact s.csrRead_csrWrite_other w hq (by rintro rfl; cases hq) nofun fun _ _ => hne
  case dcache => exact s.csrRead_csrWrite_other w hq (by rintro rfl; cases hq) nofun nofun
  case other => exact ⟨rfl, rfl, fun q hq => s.csrRead_csrWrite_open w n hq⟩

end Sys2Proof.Machine

/-! Memory and devices (O12), the scalar loads and stores (O35, O36), the instructions without a word (O38) and CACHE (O39):
each shape of instruction once, in every case of its type codes and sizes, then the statements. -/

namespace Sys2Proof.Machine

/-! ## What only stores change -/

/-- What the updates of an instruction, the modifiers' and the trap sequence keep, the instruction keeps; byte stores come in
only where it is a store. -/
theorem exec_keeps {Q : State → Prop} (c : Closed Q) (y : SystemClosed Q) (mods : ∀ s m, Q s → Q { s with mods := m })
    (trap : ∀ s k, Q s → Q (s.takeTrap k)) {i : Instr} (m : isStore i = true → StoreClosed Q) {s t : State} (h : Q s)
    (e : exec i s = .next t) : Q t := by
  cases hm : isModifier i with
  | true =>
    obtain ⟨x, rfl⟩ := exec_modifier hm e
    exact mods s x h
  | false =>
    rcases (exec_fine c h i hm m fun _ => y).next_cases t e with ⟨ht, -⟩ | ⟨k, rfl⟩
    · exact ht
    · exact trap s k h

/-- What devices read is as in `s`; unless the instruction is a store, so are memory and what went to devices. -/
def storedAsBefore (i : Instr) (s t : State) : Prop :=
  t.device = s.device ∧ (isStore i = false → t.mem = s.mem ∧ t.deviceOut = s.deviceOut)

/-- No update that any instruction may make reaches memory or devices. -/
theorem storedAsBefore_closed (i : Instr) (s : State) : Closed (storedAsBefore i s) where
  jump := fun _ _ h => h
  reg := fun t r w h => by simpa only [storedAsBefore, State.setReg_device, State.setReg_mem, State.setReg_deviceOut] using h
  elems := fun _ _ _ _ h => h
  elem := fun _ _ _ _ _ h => h
  mask := fun _ _ _ h => h
  vl := fun _ _ h => h
  coeff := fun _ _ h => h
  push := fun _ _ _ _ h => h
  pop := fun _ _ _ _ _ h => h
  free := fun _ _ h => h
  waiting := fun _ _ h => h
  tlb := fun _ _ _ _ h => h
  dcache := fun _ _ h => h
  line := fun _ _ _ h => h
  fresh := fun _ h => h

/-- RTE, REX and CSR writes reach neither memory nor devices. -/
theorem storedAsBefore_systemClosed (i : Instr) (s : State) : SystemClosed (storedAsBefore i s) where
  rte := fun _ _ _ h => h
  rex := fun _ _ h => h
  csr := fun t r w h => by
    simpa only [storedAsBefore, State.csrWrite_device, State.csrWrite_mem, State.csrWrite_deviceOut] using h

/-- A byte stored by a store changes nothing that devices read. -/
theorem storedAsBefore_storeClosed {i : Instr} (hi : isStore i = true) (s : State) : StoreClosed (storedAsBefore i s) :=
  fun t _ _ p b _ h => ⟨(t.setByte_device p b).trans h.1, fun hn => absurd (hi.symm.trans hn) (by decide)⟩

/-- Settles O12: of the updates an instruction can make, only byte stores reach memory and devices. -/
theorem onlyStoresChangeMemory : Obligations.OnlyStoresChangeMemory := fun i s _ e =>
  exec_keeps (storedAsBefore_closed i s) (storedAsBefore_systemClosed i s) (fun _ _ h => h) (fun _ _ h => h)
    (fun hi => storedAsBefore_storeClosed hi s) ⟨rfl, fun _ => ⟨rfl, rfl⟩⟩ e

/-! ## Sizes and scales -/

/-- The bytes of a size that has a meaning (R86). -/
theorem sizeBytes_valid {n : BitVec 4} (h : n.toNat < 4) : sizeBytes n = some (2 ^ n.toNat) := by
  rw [sizeBytes_eq, if_pos h]

/-- A reserved size (R86). -/
theorem sizeBytes_reserved {n : BitVec 4} (h : 4 ≤ n.toNat) : sizeBytes n = none := by
  rw [sizeBytes_eq, if_neg (Nat.not_lt.2 h)]

/-- An access has 1 to 8 bytes (R85). -/
theorem accessBytes_bounds {n : Nat} (h : n < 4) : 1 ≤ 2 ^ n ∧ 2 ^ n ≤ 8 :=
  ⟨Nat.one_le_two_pow, Nat.pow_le_pow_right (n := 2) (by decide) (Nat.le_of_lt_succ h)⟩

/-! ## Scalar loads -/

/-- A load after its address: the value where the access is accessible, else the refusal. -/
theorem loadTo_onAccesses (s : State) (signed : Bool) {n : Nat} (h1 : 1 ≤ n) (h8 : n ≤ 8) (ea : Word) (rt : RegNo) :
    onAccesses s .read n [ea] (loadTo signed n ea rt s)
      (∃ w, holdsBytes s .read ea n w ∧ nextWith (loadTo signed n ea rt s) (wroteReg rt (extended signed n w) s)) :=
  onAccesses_one (loadTo_next s signed n ea rt h1 h8) (loadTo_refused s signed n ea rt)

/-- A load, displacement form, of a size that has a meaning. -/
theorem loadOp_form (c : LdF → Instr) (signed : Bool) (n : BitVec 4) (hn : n.toNat < 4)
    (hc : ∀ f s, exec (c f) s = loadOp signed n f s) : loadForm c signed (2 ^ n.toNat) := by
  intro f s hs
  obtain ⟨h1, h8⟩ := accessBytes_bounds hn
  rw [hc, loadOp, withMods_fit _ _ _ hs, sizeBytes_valid hn]
  by_cases hv : f.tt = true ∨ f.ta = true
  · rw [if_pos hv, if_pos (by simpa using hv)]
    exact misuse_raises s
  · rw [if_neg hv, if_neg (by simpa using hv)]
    exact loadTo_onAccesses s signed h1 h8 _ f.rt

/-- A load, displacement form, of a reserved size. -/
theorem loadOp_reserved (signed : Bool) {n : BitVec 4} (hn : 4 ≤ n.toNat) (f : LdF) {s : State}
    (hs : s.mods.fit .extended = true) :
    loadOp signed n f s = if f.tt = true ∨ f.ta = true then misuse s else .refused .reservedSize := by
  rw [loadOp, withMods_fit _ _ _ hs, sizeBytes_reserved hn]
  simp only [Bool.or_eq_true]

/-- A load, indexed form, of a size that has a meaning, in each case of its type codes and its scale. -/
theorem loadXOp_valid (signed : Bool) {n : BitVec 4} (hn : n.toNat < 4) (f : LdxF) {s : State}
    (hs : s.mods.fit .plain = true) :
    loadXOp signed n f s =
      if f.tt = true ∨ f.ta = true ∨ isVec f.tb = true then misuse s
      else if 2 ≤ f.sc.toNat then .refused .reservedScale
      else loadTo signed (2 ^ n.toNat) (s.reg f.ra + s.srcSpec .signed f.tb f.rb 0 *
        (if f.sc = 1#3 then BitVec.ofNat 64 (2 ^ n.toNat) else 1#64)) f.rt s := by
  rw [loadXOp, withMods_fit _ _ _ hs, sizeBytes_valid hn]
  dsimp only
  rw [scaleFactor_eq]
  simp only [Bool.or_eq_true, or_assoc]
  by_cases hsc : 2 ≤ f.sc.toNat
  · simp only [if_pos hsc]
  · simp only [if_neg hsc]

/-- A load, indexed form, of a size that has a meaning. -/
theorem loadXOp_form (c : LdxF → Instr) (signed : Bool) (n : BitVec 4) (hn : n.toNat < 4)
    (hc : ∀ f s, exec (c f) s = loadXOp signed n f s) : loadIndexedForm c signed (2 ^ n.toNat) := by
  intro f s hs
  obtain ⟨h1, h8⟩ := accessBytes_bounds hn
  rw [hc, loadXOp_valid signed hn f hs]
  by_cases hv : f.tt = true ∨ f.ta = true ∨ isVec f.tb = true
  · rw [if_pos hv, if_pos hv]
    exact misuse_raises s
  rw [if_neg hv, if_neg hv]
  by_cases hsc : 2 ≤ f.sc.toNat
  · rw [if_pos hsc, if_pos hsc]
  · rw [if_neg hsc, if_neg hsc]
    exact loadTo_onAccesses s signed h1 h8 _ f.rt

/-- A load, indexed form, of a reserved size. -/
theorem loadXOp_reserved (signed : Bool) {n : BitVec 4} (hn : 4 ≤ n.toNat) (f : LdxF) {s : State}
    (hs : s.mods.fit .plain = true) :
    loadXOp signed n f s =
      if f.tt = true ∨ f.ta = true ∨ isVec f.tb = true then misuse s else .refused .reservedSize := by
  rw [loadXOp, withMods_fit _ _ _ hs, sizeBytes_reserved hn]
  simp only [Bool.or_eq_true, or_assoc]

/-- Settles O35: the named sizes and those of Func4 by the two forms; a reserved Func4 by what remains of each. -/
theorem loads : Obligations.Loads := by
  refine ⟨loadOp_form _ _ 0#4 (by decide) fun _ _ => rfl, loadOp_form _ _ 1#4 (by decide) fun _ _ => rfl,
    loadOp_form _ _ 2#4 (by decide) fun _ _ => rfl, loadOp_form _ _ 3#4 (by decide) fun _ _ => rfl,
    loadOp_form _ _ 0#4 (by decide) fun _ _ => rfl, loadOp_form _ _ 1#4 (by decide) fun _ _ => rfl,
    loadOp_form _ _ 2#4 (by decide) fun _ _ => rfl, loadOp_form _ _ 3#4 (by decide) fun _ _ => rfl,
    loadXOp_form _ _ 0#4 (by decide) fun _ _ => rfl, loadXOp_form _ _ 1#4 (by decide) fun _ _ => rfl,
    loadXOp_form _ _ 2#4 (by decide) fun _ _ => rfl, loadXOp_form _ _ 3#4 (by decide) fun _ _ => rfl,
    loadXOp_form _ _ 0#4 (by decide) fun _ _ => rfl, loadXOp_form _ _ 1#4 (by decide) fun _ _ => rfl,
    loadXOp_form _ _ 2#4 (by decide) fun _ _ => rfl, loadXOp_form _ _ 3#4 (by decide) fun _ _ => rfl,
    fun n hn => ?bySize, fun n f s hn hs => ?reserved, fun n f s hn hs => ?reservedIndexed⟩
  case bySize =>
    exact ⟨loadOp_form _ _ n hn fun _ _ => rfl, loadOp_form _ _ n hn fun _ _ => rfl,
      loadXOp_form _ _ n hn fun _ _ => rfl, loadXOp_form _ _ n hn fun _ _ => rfl⟩
  case reserved =>
    rw [show exec (.ldx n f) s = _ from loadOp_reserved true hn f hs,
      show exec (.ldxZ n f) s = _ from loadOp_reserved false hn f hs]
    split
    · exact ⟨misuse_raises s, misuse_raises s⟩
    · exact ⟨rfl, rfl⟩
  case reservedIndexed =>
    rw [show exec (.ldxX n f) s = _ from loadXOp_reserved true hn f hs,
      show exec (.ldxXZ n f) s = _ from loadXOp_reserved false hn f hs]
    split
    · exact ⟨misuse_raises s, misuse_raises s⟩
    · exact ⟨rfl, rfl⟩

/-! ## Scalar stores -/

/-- A store after its address: the bytes where the access is accessible, else the refusal. -/
theorem storeAt_onAccesses (s : State) (n : Nat) (ea w : Word) :
    onAccesses s .write n [ea] (storeAt n ea w s) (nextWith (storeAt n ea w s) (stored ea n w s)) :=
  onAccesses_one (storeAt_next s n ea w) (storeAt_refused s n ea w)

/-- A store, displacement form. -/
theorem storeOp_storeAt_form (c : StF → Instr) (n : Nat) (hc : ∀ f s, exec (c f) s = storeOp (storeAt n) f s) :
    storeForm c n := by
  intro f s hs
  rw [hc, storeOp, withMods_fit _ _ _ hs]
  by_cases hv : f.ta = true ∨ isVec f.tb = true
  · rw [if_pos hv, if_pos (by simpa using hv)]
    exact misuse_raises s
  · rw [if_neg hv, if_neg (by simpa using hv)]
    exact storeAt_onAccesses s n _ _

/-- A store, indexed form, in each case of its type codes and its scale. -/
theorem storeXOp_cases (n : Nat) (put : Word → Word → State → Out) (f : StxF) {s : State}
    (hs : s.mods.fit .plain = true) :
    storeXOp n put f s =
      if f.ta = true ∨ isVec f.tb = true ∨ isVec s.mods.rc.1 = true then misuse s
      else if 2 ≤ f.sc.toNat then .refused .reservedScale
      else put (s.reg f.ra + s.opC .signed 0 * (if f.sc = 1#3 then BitVec.ofNat 64 n else 1#64))
        (s.srcSpec .signed f.tb f.rb 0) s := by
  rw [storeXOp, withMods_fit _ _ _ hs, scaleFactor_eq]
  simp only [Bool.or_eq_true, or_assoc]
  by_cases hsc : 2 ≤ f.sc.toNat
  · simp only [if_pos hsc]
  · simp only [if_neg hsc, State.storeXAddress]

/-- A store, indexed form. -/
theorem storeXOp_storeAt_form (c : StxF → Instr) (n : Nat) (hc : ∀ f s, exec (c f) s = storeXOp n (storeAt n) f s) :
    storeIndexedForm c n := by
  intro f s hs
  rw [hc, storeXOp_cases n _ f hs]
  by_cases hv : f.ta = true ∨ isVec f.tb = true ∨ isVec s.mods.rc.1 = true
  · rw [if_pos hv, if_pos hv]
    exact misuse_raises s
  rw [if_neg hv, if_neg hv]
  by_cases hsc : 2 ≤ f.sc.toNat
  · rw [if_pos hsc, if_pos hsc]
  · rw [if_neg hsc, if_neg hsc]
    exact storeAt_onAccesses s n _ _

/-- STx of a size that has a meaning. -/
theorem exec_stx_valid {n : BitVec 4} (hn : n.toNat < 4) (f : StF) (s : State) :
    exec (.stx n f) s = storeOp (storeAt (2 ^ n.toNat)) f s := by
  show execStx n f s = _
  rw [execStx, sizeBytes_valid hn]

/-- STxX of a size that has a meaning. -/
theorem exec_stxX_valid {n : BitVec 4} (hn : n.toNat < 4) (f : StxF) (s : State) :
    exec (.stxX n f) s = storeXOp (2 ^ n.toNat) (storeAt (2 ^ n.toNat)) f s := by
  show execStxX n f s = _
  rw [execStxX, sizeBytes_valid hn]

/-- STx of a reserved size; 7 is STPTR's. -/
theorem exec_stx_reserved {n : BitVec 4} (hn : 4 ≤ n.toNat) (h7 : n ≠ 7#4) (f : StF) {s : State}
    (hs : s.mods.fit .extended = true) :
    exec (.stx n f) s = if f.ta = true ∨ isVec f.tb = true then misuse s else .refused .reservedSize := by
  show execStx n f s = _
  rw [execStx, sizeBytes_reserved hn]
  simp only [h7, if_false, withMods_fit _ _ _ hs, Bool.or_eq_true]

/-- STxX of a reserved size; 7 is STPTR's. -/
theorem exec_stxX_reserved {n : BitVec 4} (hn : 4 ≤ n.toNat) (h7 : n ≠ 7#4) (f : StxF) {s : State}
    (hs : s.mods.fit .plain = true) :
    exec (.stxX n f) s =
      if f.ta = true ∨ isVec f.tb = true ∨ isVec s.mods.rc.1 = true then misuse s else .refused .reservedSize := by
  show execStxX n f s = _
  rw [execStxX, sizeBytes_reserved hn]
  simp only [h7, if_false, withMods_fit _ _ _ hs, Bool.or_eq_true, or_assoc]

/-- Settles O36: the named sizes and those of Func4 by the two forms; a reserved Func4 by what remains of each. -/
theorem stores : Obligations.Stores := by
  refine ⟨storeOp_storeAt_form _ 1 fun _ _ => rfl, storeOp_storeAt_form _ 2 fun _ _ => rfl,
    storeOp_storeAt_form _ 4 fun _ _ => rfl, storeOp_storeAt_form _ 8 fun _ _ => rfl,
    storeXOp_storeAt_form _ 1 fun _ _ => rfl, storeXOp_storeAt_form _ 2 fun _ _ => rfl,
    storeXOp_storeAt_form _ 4 fun _ _ => rfl, storeXOp_storeAt_form _ 8 fun _ _ => rfl,
    fun n hn => ?bySize, fun n f s hn h7 hs => ?reserved, fun n f s hn h7 hs => ?reservedIndexed⟩
  case bySize => exact ⟨storeOp_storeAt_form _ _ (exec_stx_valid hn), storeXOp_storeAt_form _ _ (exec_stxX_valid hn)⟩
  case reserved =>
    rw [exec_stx_reserved hn h7 f hs]
    split
    · exact misuse_raises s
    · rfl
  case reservedIndexed =>
    rw [exec_stxX_reserved hn h7 f hs]
    split
    · exact misuse_raises s
    · rfl

/-! ## The instructions without a word -/

/-- LEA: the effective address, unless a type code, the size or the scale does not fit (R430). -/
theorem exec_lea {s : State} (hs : s.mods.fit .plain = true) (f : LeaF) :
    exec (.lea f) s =
      if f.tt = true ∨ f.ta = true ∨ isVec f.tb = true then misuse s
      else if 4 ≤ f.size.toNat then .refused .reservedSize
      else if 2 ≤ f.sc.toNat then .refused .reservedScale
      else .next (s.setReg f.rt (f.disp + s.reg f.ra + s.srcSpec .signed f.tb f.rb 0 *
        (if f.sc = 1#3 then BitVec.ofNat 64 (2 ^ f.size.toNat) else 1#64))).advance := by
  show execLea f s = _
  rw [execLea, withMods_fit _ _ _ hs]
  simp only [Bool.or_eq_true, or_assoc]
  refine if_congr Iff.rfl rfl ?_
  by_cases hn : 4 ≤ f.size.toNat
  · rw [if_pos hn, sizeBytes_reserved hn]
  rw [if_neg hn, sizeBytes_valid (Nat.not_le.1 hn)]
  dsimp only
  rw [scaleFactor_eq]
  by_cases hsc : 2 ≤ f.sc.toNat
  · rw [if_pos hsc, if_pos hsc]
  · rw [if_neg hsc, if_neg hsc]

/-- The store of a zeroing store, accessible: the bytes, then a scalar data register is zero (R443). -/
theorem storeZeroAt_next (s : State) (n : Nat) (f : StF) (ea w : Word) (h : accessible s .write ea n) :
    nextWith (storeZeroAt n f ea w s) (fun t => ∃ u, storedBytes ea n w s u ∧
      if f.tb = 0#2 then wroteReg f.rb 0#64 u t else onlyAdvanced u t) := by
  obtain ⟨u, hu, hb⟩ := State.memWrite_stored s ea w n h
  rw [storeZeroAt, hu]
  refine ⟨_, rfl, u, hb, ?_⟩
  split
  · exact wroteReg_setReg u f.rb _
  · exact onlyAdvanced_advance u

/-- The store of a zeroing store, not accessible. -/
theorem storeZeroAt_refused (s : State) (n : Nat) (f : StF) (ea w : Word) (h : ¬ accessible s .write ea n) :
    refusedFor s .write n (storeZeroAt n f ea w s) ea := by
  unfold storeZeroAt
  cases hr : s.memWrite ea n w with
  | error e => exact ⟨e, rfl, State.memWrite_error hr⟩
  | ok t => exact absurd (State.memWrite_ok hr) h

/-- A zeroing store of `n` bytes. -/
theorem storeOp_storeZeroAt_form (n : Nat) (f : StF) {s : State} (hs : s.mods.fit .extended = true) :
    if f.ta = true ∨ isVec f.tb = true then nextWith (storeOp (storeZeroAt n f) f s) (raisedUnimplemented s)
    else
      let ea := s.reg f.ra + s.mods.disp f.disp11
      onAccesses s .write n [ea] (storeOp (storeZeroAt n f) f s)
        (nextWith (storeOp (storeZeroAt n f) f s) (fun t => ∃ u,
          storedBytes ea n (s.srcSpec .signed f.tb f.rb 0) s u ∧
          if f.tb = 0#2 then wroteReg f.rb 0#64 u t else onlyAdvanced u t)) := by
  rw [storeOp, withMods_fit _ _ _ hs]
  by_cases hv : f.ta = true ∨ isVec f.tb = true
  · rw [if_pos hv, if_pos (by simpa using hv)]
    exact misuse_raises s
  · rw [if_neg hv, if_neg (by simpa using hv)]
    exact onAccesses_one (storeZeroAt_next s n f _ _) (storeZeroAt_refused s n f _ _)

/-- Settles O38: LEA by its cases, its vector forms element by element, the zeroing stores by their one form. -/
theorem instructionsWithoutWord : Obligations.InstructionsWithoutWord := by
  refine ⟨fun f s hs => ?lea, fun f s hs => ?leaV, fun f s hs p hp => ?zeroing⟩
  case lea =>
    rw [exec_lea hs]
    by_cases hv : f.tt = true ∨ f.ta = true ∨ isVec f.tb = true
    · rw [if_pos hv, if_pos hv]
      exact misuse_raises s
    rw [if_neg hv, if_neg hv]
    by_cases hn : 4 ≤ f.size.toNat
    · rw [if_pos hn, if_pos hn]
    rw [if_neg hn, if_neg hn]
    by_cases hsc : 2 ≤ f.sc.toNat
    · rw [if_pos hsc, if_pos hsc]
    · rw [if_neg hsc, if_neg hsc]
      exact ⟨_, rfl, wroteReg_setReg s f.rt _⟩
  case leaV =>
    show elementwise s true true false f.rt _ _ (execLeaV f s)
    rw [execLeaV, withMods_fit _ _ _ hs]
    exact elementOp_elementwise ..
  case zeroing =>
    simp only [List.mem_cons, List.not_mem_nil, or_false] at hp
    rcases hp with rfl | rfl | rfl | rfl
    · exact storeOp_storeZeroAt_form 1 f hs
    · exact storeOp_storeZeroAt_form 2 f hs
    · exact storeOp_storeZeroAt_form 4 f hs
    · exact storeOp_storeZeroAt_form 8 f hs

/-! ## CACHE -/

/-- Dropping the entries of some keys: those keys read as unlisted, every other key is unchanged. -/
theorem sparseGet_filter {α : Type} (d : α) (m : List (Nat × α)) (keep : Nat → Bool) (q : Nat) :
    sparseGet d (m.filter (fun c => keep c.1)) q = if keep q = true then sparseGet d m q else d := by
  induction m with
  | nil => simp [sparseGet]
  | cons c m ih =>
    obtain ⟨k, x⟩ := c
    by_cases hk : k = q
    · subst k
      cases hq : keep q <;> simp_all [sparseGet]
    · cases hc : keep k <;> simp [sparseGet, hc, hk, ih]

/-- After a line is invalidated its bytes are fetched as stored; every other byte is as before (R96, R671). -/
theorem sparseGet_freshLine (line : Nat) (stale : List (Nat × Bool)) (p q : Nat) :
    sparseGet false (freshLine line stale p) q =
      (sparseGet false stale q && !decide (q / line = p / line)) := by
  refine (sparseGet_filter false stale (fun k => decide (k / line ≠ p / line)) q).trans ?_
  by_cases h : q / line = p / line <;> simp [h]

/-- CACHE under modifiers it takes, at a scalar base (R410). -/
theorem exec_cache {s : State} (hs : s.mods.fit .plain = true) {f : CacheF} (hv : ¬ f.ta = true) :
    exec (.cache f) s = withSysPriv s
      (if 3 ≤ f.ic3.toNat ∨ 5 ≤ f.dc3.toNat then .refused .reservedCacheCommand
      else cacheCommand f.ic3 f.dc3 (s.reg f.ra + BitVec.ofInt 64 f.disp12.toInt) s) := by
  show execCache f s = _
  rw [execCache, withMods_fit _ _ _ hs, if_neg hv]
  rfl

/-- CACHE's two commands (R96, R410): the data-cache enable by DC3; by IC3 the bytes of the line of `p`, or all, are fresh.
The address matters only where IC3 is 1. -/
theorem cacheCommand_next {ic3 : BitVec 3} (dc3 : BitVec 3) (ea : Word) {s : State} {p : Nat} (hic : ic3.toNat < 3)
    (hp : ic3 = 1#3 → s.translate .fetch ea = .ok p) :
    nextWith (cacheCommand ic3 dc3 ea s) (fun t =>
      t = { s with dcacheEnable := t.dcacheEnable, stale := t.stale, ip := s.ipNext, mods := Mods.empty } ∧
      t.dcacheEnable = (if dc3 = 1#3 then true else if dc3 = 2#3 then false else s.dcacheEnable) ∧
      ∀ q, sparseGet false t.stale q = (sparseGet false s.stale q &&
        !(decide (ic3 = 2#3) || decide (ic3 = 1#3 ∧ q / s.cfg.icacheLine = p / s.cfg.icacheLine)))) := by
  unfold cacheCommand
  by_cases h1 : ic3 = 1#3
  · subst h1
    rw [if_pos rfl, hp rfl]
    exact ⟨_, rfl, rfl, rfl, fun q => by simpa using sparseGet_freshLine s.cfg.icacheLine s.stale p q⟩
  rw [if_neg h1]
  by_cases h2 : ic3 = 2#3
  · rw [if_pos h2]
    exact ⟨_, rfl, rfl, rfl, fun q => by simp [h2, State.advance, State.jump, sparseGet]⟩
  · rw [if_neg h2]
    exact ⟨_, rfl, rfl, rfl, fun q => by simp [h1, h2, State.advance, State.jump]⟩

/-- The invalidation of a line whose address does not translate (log 20). -/
theorem cacheCommand_refused {dc3 : BitVec 3} {ea : Word} {s : State} {e : Refusal}
    (he : s.translate .fetch ea = .error e) : cacheCommand 1#3 dc3 ea s = .refused e := by
  rw [cacheCommand, if_pos rfl, he]

/-- Settles O39: sys_priv by its three treatments; where CACHE runs, reserved commands, then the two commands. -/
theorem cacheCommands : Obligations.CacheCommands := by
  intro f s hs
  by_cases hv : f.ta = true
  · rw [if_pos hv]
    show nextWith (execCache f s) _
    rw [execCache, withMods_fit _ _ _ hs, if_pos hv]
    exact misuse_raises s
  rw [if_neg hv, exec_cache hs hv]
  refine ⟨fun hl h => withSysPriv_refuse _ hl h, fun hl h => ?trap, fun h hr => ?reserved, fun h hic hdc p hp => ?runs,
    fun h hic hdc e he => ?untranslated⟩
  case trap =>
    rw [withSysPriv_trap _ hl h]
    exact ⟨_, rfl, trapped_takeTrap s _⟩
  all_goals rw [withSysPriv_allowed _ h]
  case reserved => rw [if_pos hr]
  case runs =>
    rw [if_neg (by omega)]
    exact cacheCommand_next f.dc3 _ hic hp
  case untranslated =>
    rw [if_neg (by simp [hic]; omega), hic]
    exact cacheCommand_refused he

end Sys2Proof.Machine

/-! Which byte an address reaches (O40), and memory between a store and a load (O41): the TLB's choice of an entry, then the
bytes that a store leaves and a load gives. -/

namespace Sys2Proof.Machine

/-! ## Translation -/

/-- The R, W and X bits of an entry are not all clear: it is present (R100). -/
theorem tlbPresent_iff (x : Word) :
    x.extractLsb' 48 3 ≠ 0#3 ↔ x.getLsbD 48 = true ∨ x.getLsbD 49 = true ∨ x.getLsbD 50 = true := by
  have three : ∀ y : BitVec 3, y ≠ 0#3 ↔ y.getLsbD 0 = true ∨ y.getLsbD 1 = true ∨ y.getLsbD 2 = true := by decide
  simp [three]

/-- Bits 63:40 of an address are clear: it lies below 2^40 (R101). -/
theorem extractLsb'_high_eq_zero (va : Word) : va.extractLsb' 40 24 = 0#24 ↔ va.toNat < 2 ^ 40 := by
  have := va.isLt
  rw [← BitVec.toNat_inj, BitVec.extractLsb'_toNat, Nat.shiftRight_eq_div_pow, BitVec.toNat_ofNat]
  omega

/-- An entry translates an address (R100, R101): it is present, the tag matches, and it is global or of the address space. -/
theorem tlbHit_iff (x : Word) (asid : BitVec 8) (va : Word) :
    tlbHit x asid va = true ↔
      (x.getLsbD 48 = true ∨ x.getLsbD 49 = true ∨ x.getLsbD 50 = true) ∧
      x.extractLsb' 32 16 = va.extractLsb' 24 16 ∧ va.toNat < 2 ^ 40 ∧
      (x.getLsbD 55 = true ∨ x.extractLsb' 56 8 = asid) := by
  simp only [tlbHit, Bool.and_eq_true, Bool.or_eq_true, bne_iff_ne, beq_iff_eq, tlbPresent_iff, extractLsb'_high_eq_zero,
    and_assoc]

/-- The entry that way `w` has for an address (R101). -/
def State.wayEntry (s : State) (va : Word) (w : Nat) : Word := s.tlbEntry (BitVec.ofNat 2 w) (va.extractLsb' 14 10)

/-- The lookup goes through the ways 0 to 3 (log 22). -/
theorem State.tlbLookup_eq (s : State) (asid : BitVec 8) (va : Word) :
    s.tlbLookup asid va =
      ((List.range 4).find? (fun w => tlbHit (s.wayEntry va w) asid va)).map (s.wayEntry va) :=
  List.find?_map (f := s.wayEntry va) (l := List.range 4)

/-- The first way that translates an address gives its entry. -/
theorem State.tlbLookup_first {s : State} {asid : BitVec 8} {va : Word} {way : Nat} (hlt : way < 4)
    (hhit : tlbHit (s.wayEntry va way) asid va = true) (hfirst : ∀ w < way, ¬ tlbHit (s.wayEntry va w) asid va = true) :
    s.tlbLookup asid va = some (s.wayEntry va way) := by
  have hfind : (List.range 4).find? (fun w => tlbHit (s.wayEntry va w) asid va) = some way :=
    List.find?_range_eq_some.2 ⟨hhit, List.mem_range.2 hlt, fun w hw => by simpa using hfirst w hw⟩
  rw [State.tlbLookup_eq, hfind, Option.map_some]

/-- No way translates the address. -/
theorem State.tlbLookup_none {s : State} {asid : BitVec 8} {va : Word}
    (h : ∀ w < 4, ¬ tlbHit (s.wayEntry va w) asid va = true) : s.tlbLookup asid va = none := by
  have hfind : (List.range 4).find? (fun w => tlbHit (s.wayEntry va w) asid va) = none :=
    List.find?_range_eq_none.2 fun w hw => by simpa using h w hw
  rw [State.tlbLookup_eq, hfind, Option.map_none]

/-- The physical address {PPN, va[13:0]} as a number (R102). -/
theorem pageAddress_toNat (x va : Word) :
    (x.extractLsb' 0 20 ++ va.extractLsb' 0 14 : BitVec 34).toNat = x.toNat % 2 ^ 20 * 2 ^ 14 + va.toNat % 2 ^ 14 := by
  have hlow : va.toNat % 2 ^ 14 < 2 ^ 14 := Nat.mod_lt _ (by decide)
  rw [BitVec.toNat_append, BitVec.extractLsb'_toNat, BitVec.extractLsb'_toNat, Nat.shiftRight_zero, Nat.shiftRight_zero,
    ← Nat.shiftLeft_add_eq_or_of_lt hlow, Nat.shiftLeft_eq]

/-- Without translation an address is the byte of the same number. -/
theorem State.translate_identity {s : State} (h : s.cfg.translate = .identity) (k : Access) (va : Word) :
    s.translate k va = .ok va.toNat := by
  simp only [State.translate, h]

/-- The entry that the lookup gives translates where it permits the access. -/
theorem State.translate_tlb_some {s : State} {asid : BitVec 8} (h : s.cfg.translate = .tlb asid) (k : Access) {va x : Word}
    (hx : s.tlbLookup asid va = some x) :
    s.translate k va =
      if tlbPermits x k = true then .ok (x.toNat % 2 ^ 20 * 2 ^ 14 + va.toNat % 2 ^ 14) else .error .noTranslation := by
  simp only [State.translate, h, hx, pageAddress_toNat]

/-- Without an entry there is no translation. -/
theorem State.translate_tlb_none {s : State} {asid : BitVec 8} (h : s.cfg.translate = .tlb asid) (k : Access) {va : Word}
    (hx : s.tlbLookup asid va = none) : s.translate k va = .error .noTranslation := by
  simp only [State.translate, h, hx]

/-- The bytes of a list of regions (R91). -/
theorem inRegions_iff (l : List Region) (p : Nat) :
    inRegions l p = true ↔ ∃ r ∈ l, r.base ≤ p ∧ p < r.base + r.size := by
  simp only [inRegions, List.any_eq_true, decide_eq_true_eq]

/-- An address without a translation reaches no byte. -/
theorem State.physical_error {s : State} {k : Access} {va : Word} {e : Refusal} (h : s.translate k va = .error e) :
    s.physical k va = .error e := by
  rw [State.physical, h]

/-- A translated address reaches its byte if that is a device's or memory's (R91). -/
theorem State.physical_of_translate {s : State} {k : Access} {va : Word} {p : Nat} (h : s.translate k va = .ok p) :
    s.physical k va =
      if inRegions s.cfg.mmio p = true ∨ inRegions s.cfg.backed p = true then .ok p else .error .unbackedAddress := by
  rw [State.physical, h]
  simp only [State.isDevice, Bool.or_eq_true]

/-- Settles O40: each form of translation, the choice of the TLB entry, then the regions. -/
theorem addressesReachMemory : Obligations.AddressesReachMemory := by
  intro s k va
  dsimp only
  refine ⟨fun h => State.translate_identity h k va, fun n h => ?other, fun asid way h hlt hhit hfirst => ?entry,
    fun asid h hmiss => ?noEntry, fun e => State.physical_error, fun p h => ⟨fun hp => ?reached, fun hm hb => ?unbacked⟩,
    fun p => inRegions_iff _ p⟩
  case other =>
    cases hx : Config.translateBy n va k s.mode s.tlb with
    | none => simp only [State.translate, h, hx]
    | some p => simp only [State.translate, h, hx]
  case entry =>
    have hx : s.tlbLookup asid va = some (s.wayEntry va way) :=
      State.tlbLookup_first hlt ((tlbHit_iff ..).2 hhit) fun w hw h => hfirst w hw ((tlbHit_iff ..).1 h)
    rw [State.translate_tlb_some h k hx]
    cases k <;> rfl
  case noEntry => exact State.translate_tlb_none h k (State.tlbLookup_none fun w hw h => hmiss w hw ((tlbHit_iff ..).1 h))
  case reached => rw [State.physical_of_translate h, if_pos (hp.imp (inRegions_iff ..).2 (inRegions_iff ..).2)]
  case unbacked =>
    rw [State.physical_of_translate h,
      if_neg (not_or.2 ⟨fun x => hm ((inRegions_iff ..).1 x), fun x => hb ((inRegions_iff ..).1 x)⟩)]

/-! ## A load after a store -/

/-- A byte that an address reaches without translation has the address's number. -/
theorem State.physical_identity {s : State} (h : s.cfg.translate = .identity) {k : Access} {va : Word} {p : Nat}
    (hp : s.physical k va = .ok p) : p = va.toNat := by
  rw [State.physical_of_translate (State.translate_identity h k va)] at hp
  split at hp
  · exact (Except.ok.inj hp).symm
  · cases hp

/-- Without translation every kind of access reaches the same bytes. -/
theorem State.physical_identity_kind {s : State} (h : s.cfg.translate = .identity) (k l : Access) (va : Word) :
    s.physical k va = s.physical l va := by
  rw [State.physical_of_translate (State.translate_identity h k va),
    State.physical_of_translate (State.translate_identity h l va)]

/-- A store that is made stores its bytes. -/
theorem State.memWrite_storedBytes {s t : State} {a w : Word} {n : Nat} (h : s.memWrite a n w = .ok t) :
    storedBytes a n w s t := by
  obtain ⟨u, hu, hst⟩ := State.memWrite_stored s a w n (State.memWrite_ok h)
  cases h.symm.trans hu
  exact hst

/-- A store leaves the byte that an address reaches. -/
theorem storedBytes_physical {a w : Word} {n : Nat} {s t : State} (h : storedBytes a n w s t) (k : Access) (va : Word) :
    t.physical k va = s.physical k va := by
  rw [h.1]
  rfl

/-- Two states in which the addresses of a read reach the same bytes, which read the same, give it the same value. -/
theorem State.readBytes_congr {s t : State} {k : Access} (hp : ∀ va, t.physical k va = s.physical k va) {n : Nat}
    {a : Word} (h : ∀ i < n, ∀ p, s.physical k (a + BitVec.ofNat 64 i) = .ok p → t.byteAt p = s.byteAt p) :
    t.readBytes k a n = s.readBytes k a n := by
  induction n generalizing a with
  | zero => rfl
  | succ n ih =>
    have rest : t.readBytes k (a + 1#64) n = s.readBytes k (a + 1#64) n := ih fun i hi p hq =>
      h (i + 1) (Nat.succ_lt_succ hi) p (by rwa [addr_succ] at hq)
    simp only [State.readBytes, hp, rest]
    cases hq : s.physical k a with
    | error e => rfl
    | ok p =>
      have first : t.byteAt p = s.byteAt p := h 0 (Nat.succ_pos n) p (by simpa using hq)
      simp only [first]

/-- After a store a read gives what it gave before where each of its bytes does. -/
theorem storedBytes_memRead {a w : Word} {n : Nat} {s t : State} (hst : storedBytes a n w s t) {b : Word} {m : Nat}
    (h : ∀ j < m, ∀ p, s.physical .read (b + BitVec.ofNat 64 j) = .ok p → t.byteAt p = s.byteAt p) :
    t.memRead b m = s.memRead b m := by
  have hm : t.misaligned b m = s.misaligned b m := by
    rw [hst.1]
    rfl
  rw [State.memRead, State.memRead, hm, State.readBytes_congr (storedBytes_physical hst .read) h]

/-- A value of `n` bytes is known by its bytes. -/
theorem eq_of_bytes {v w : Word} {n : Nat} (hv : v.toNat < 2 ^ (8 * n))
    (h : ∀ i < n, v.extractLsb' (8 * i) 8 = w.extractLsb' (8 * i) 8) : v = BitVec.ofNat 64 (w.toNat % 2 ^ (8 * n)) := by
  apply BitVec.eq_of_getLsbD_eq
  intro j hj
  rw [BitVec.getLsbD_ofNat, Nat.testBit_mod_two_pow]
  by_cases hb : j < 8 * n
  · have hbyte := congrArg (fun x => x.getLsbD (j % 8)) (h (j / 8) (by omega))
    have hmod : j % 8 < 8 := Nat.mod_lt _ (by decide)
    simp only [BitVec.getLsbD_extractLsb', hmod, decide_true, Bool.true_and, Nat.div_add_mod] at hbyte
    rw [hbyte, decide_eq_true hj, decide_eq_true hb, Bool.true_and, Bool.true_and, BitVec.testBit_toNat]
  · have : v.toNat < 2 ^ j := Nat.lt_of_lt_of_le hv (Nat.pow_le_pow_right (by decide) (Nat.not_lt.1 hb))
    rw [decide_eq_false hb, Bool.false_and, Bool.and_false, ← BitVec.testBit_toNat, Nat.testBit_eq_false_of_lt this]

/-- The bytes of an access have different addresses. -/
theorem addr_offset_inj {a : Word} {i j : Nat} (hi : i < 2 ^ 64) (hj : j < 2 ^ 64)
    (h : a + BitVec.ofNat 64 i = a + BitVec.ofNat 64 j) : i = j := by
  have := congrArg BitVec.toNat ((BitVec.add_right_inj a).1 h)
  rwa [BitVec.toNat_ofNat, BitVec.toNat_ofNat, Nat.mod_eq_of_lt hi, Nat.mod_eq_of_lt hj] at this

/-- Without translation each byte of memory that is stored reads its byte of the value. -/
theorem storedBytes_byteAt {a w : Word} {n : Nat} {s t : State} (hst : storedBytes a n w s t)
    (hid : s.cfg.translate = .identity) (hn : n ≤ 8) {i : Nat} (hi : i < n) {p : Nat}
    (hp : s.physical .write (a + BitVec.ofNat 64 i) = .ok p) (hd : s.isDevice p = false) :
    t.byteAt p = w.extractLsb' (8 * i) 8 := by
  obtain ⟨-, bytes, -⟩ := hst
  refine (bytes i hi p hp hd fun j hj hij hq => ?_).1
  have heq : a + BitVec.ofNat 64 i = a + BitVec.ofNat 64 j :=
    BitVec.eq_of_toNat_eq ((State.physical_identity hid hp).symm.trans (State.physical_identity hid hq))
  exact absurd (addr_offset_inj (by omega) (by omega) heq) (Nat.ne_of_lt hij)

/-- Without translation, a load of the bytes just stored, all of them memory's, gives their value (R82, R92). -/
theorem memRead_memWrite_same {s t : State} {a w : Word} {n : Nat} (hid : s.cfg.translate = .identity) (hn : n ≤ 8)
    (h : s.memWrite a n w = .ok t) (hd : ∀ i < n, s.isDevice (a + BitVec.ofNat 64 i).toNat = false) :
    t.memRead a n = .ok (BitVec.ofNat 64 (w.toNat % 2 ^ (8 * n))) := by
  have hst := State.memWrite_storedBytes h
  have kind := State.physical_identity_kind hid .read .write
  have hread : accessible s .read a n := by
    obtain ⟨aligned, reached⟩ := State.memWrite_ok h
    exact ⟨aligned, fun i hi => by rw [kind]; exact reached i hi⟩
  obtain ⟨v, hv, hlt, hbytes⟩ := State.memRead_holds t a n hn (storedBytes_accessible hst hread)
  rw [hv, eq_of_bytes hlt fun i hi => ?_]
  obtain ⟨p, hp⟩ := hread.2 i hi
  rw [hbytes i hi p (by rw [storedBytes_physical hst, hp])]
  rw [kind] at hp
  exact storedBytes_byteAt hst hid hn hi hp (State.physical_identity hid hp ▸ hd i hi)

/-- Settles O41: the bytes just stored; those of which none was stored, and a device's, which no store changes; and the check
of the alignment. -/
theorem memoryReadsLastStore : Obligations.MemoryReadsLastStore := by
  intro s t a w b n m hid hn h
  have hst := State.memWrite_storedBytes h
  have ⟨_, _, other, _⟩ := hst
  refine ⟨memRead_memWrite_same hid hn h, fun hne => ?elsewhere, fun hd => ?device, fun hr hm => ?misaligned⟩
  case elsewhere =>
    refine storedBytes_memRead hst fun j hj p hp => (other p (.inr fun i hi hq => hne i hi j hj ?_)).1
    exact BitVec.eq_of_toNat_eq ((State.physical_identity hid hq).symm.trans (State.physical_identity hid hp))
  case device =>
    refine storedBytes_memRead hst fun j hj p hp => (other p (.inl ?_)).1
    exact State.physical_identity hid hp ▸ hd j hj
  case misaligned =>
    have hmis : s.misaligned b m = true := by simp [State.misaligned, hr, hm]
    exact ⟨if_pos hmis, if_pos hmis⟩

end Sys2Proof.Machine

/-! The vector loads and stores (O59, O60): the checks that come before their accesses, what a list of accesses gives, and the
addresses of the strided, indexed and compressed forms. -/

namespace Sys2Proof.Machine

/-! ## Before the accesses -/

/-- A vector load or store that answers `run` of its STRIDE word behind the checks of the word's type, the base and VL, where
`run` checks the size (R552, R590). -/
theorem strideForm_of_withStride {o : Out} {s : State} {indexed bad : Bool} {func4 : BitVec 4} {run : StrideF → Out}
    {body : StrideF → Nat → Prop}
    (ho : o = withStride indexed s (fun m => if bad = true then misuse s else withVl s (run m)))
    (hreserved : ∀ m, 4 ≤ func4.toNat → run m = .refused .reservedSize)
    (hrun : ∀ m, func4.toNat < 4 → o = run m → body m (2 ^ func4.toNat)) : strideForm o s indexed bad func4 body := by
  intro hs
  rw [withStride, withMods_fit _ _ _ hs] at ho
  revert ho
  rcases s.mods.tail with _ | (m | m | m | m)
  case some.stride =>
    intro ho
    dsimp only at ho ⊢
    by_cases hty : isVec m.tc ≠ indexed
    · rw [if_pos hty]
      exact ho.trans (if_neg (by simpa using hty))
    rw [if_neg hty]
    replace ho := ho.trans (if_pos (by simpa using hty))
    by_cases hb : bad = true
    · rw [if_pos hb, ho.trans (if_pos hb)]
      exact misuse_raises s
    rw [if_neg hb]
    replace ho := ho.trans (if_neg hb)
    by_cases hl : s.cfg.vlmax < s.vl.toNat
    · rw [if_pos hl]
      exact ho.trans (withVl_gt _ _ hl)
    rw [if_neg hl]
    replace ho := ho.trans (withVl_le _ _ (Nat.not_lt.1 hl))
    by_cases hn : 4 ≤ func4.toNat
    · rw [if_pos hn]
      exact ho.trans (hreserved m hn)
    · rw [if_neg hn]
      exact hrun m (Nat.not_le.1 hn) ho
  all_goals exact id

/-- The address of an element as the statements have it (R591, R592). -/
theorem elemAddress_eq_strideAddress (s : State) (m : StrideF) (base : Word) :
    s.elemAddress m base = strideAddress s m base := by
  have hconst : ∀ ty : BitVec 2, zext (ty.extractLsb' 0 1 ++ m.rc : BitVec 6) =
      BitVec.ofNat 64 (32 * (ty.toNat % 2) + m.rc.toNat) := by
    intro ty
    apply BitVec.eq_of_toNat_eq
    rw [zext, BitVec.toNat_setWidth, BitVec.toNat_append, BitVec.extractLsb'_toNat, BitVec.toNat_ofNat,
      ← Nat.shiftLeft_add_eq_or_of_lt m.rc.isLt, Nat.shiftLeft_eq, Nat.shiftRight_zero, Nat.mul_comm 32]
  funext x
  by_cases h1 : m.tc = 1#2
  · simp [State.elemAddress, strideAddress, isVec, h1]
  by_cases h0 : m.tc = 0#2
  · simp [State.elemAddress, strideAddress, isVec, h0, State.srcSpec]
  · simp only [State.elemAddress, strideAddress, isVec, h0, h1, State.srcSpec, constValue, hconst, BitVec.ofNat_mul,
      beq_iff_eq, if_false]

/-- The images of a list's elements, by their places in it. -/
theorem map_eq_map_range_getD {α β : Type} (l : List α) (d : α) (f : α → β) :
    l.map f = (List.range l.length).map (fun j => f (l.getD j d)) := by
  apply List.ext_getElem
  · simp
  · intro j h _
    have hj : j < l.length := by simpa using h
    simp [hj]

/-! ## The loads -/

/-- The value of an accessible access; of any other, some value. -/
def State.valueAt (s : State) (n : Nat) (a : Word) : Word :=
  match s.memRead a n with
  | .ok w => w
  | .error _ => 0#64

/-- An accessible access gives its value. -/
theorem State.memRead_valueAt {s : State} {n : Nat} {a : Word} (hn : n ≤ 8) (h : accessible s .read a n) :
    s.memRead a n = .ok (s.valueAt n a) ∧ holdsBytes s .read a n (s.valueAt n a) := by
  obtain ⟨w, hw, hb⟩ := State.memRead_holds s a n hn h
  have hv : s.valueAt n a = w := by rw [State.valueAt, hw]
  exact ⟨hv ▸ hw, hv ▸ hb⟩

/-- Loads that are all accessible give their values, each in its place. -/
theorem State.loadMany_values {s : State} {n : Nat} (ext : Word → Word) (hn : n ≤ 8) {l : List (Option Word)}
    (h : ∀ a, some a ∈ l → accessible s .read a n) :
    s.loadMany n ext l = .ok (l.map (Option.map (fun a => ext (s.valueAt n a)))) := by
  induction l with
  | nil => rfl
  | cons c l ih =>
    have rest := ih fun a ha => h a (List.mem_cons_of_mem _ ha)
    cases c with
    | none => simp only [State.loadMany, rest, List.map_cons, Option.map_none]
    | some a =>
      have head := (State.memRead_valueAt hn (h a List.mem_cons_self)).1
      simp only [State.loadMany, head, rest, List.map_cons, Option.map_some]

/-- A vector load after its addresses: the loads in order, then the elements (R590). -/
def loadElems (n : Nat) (rt : RegNo) (sel : MaskSel) (addrs : List (Option Word)) (s : State) : Out :=
  match s.loadMany n (extendLoad (!zeroing sel) n) addrs with
  | .error e => .refused e
  | .ok ws => .next (s.setElems rt s.vlen (loadedValue sel ws)).advance

/-- What a vector load writes to element `e` where its accesses are accessible. -/
def elemLoaded (s : State) (n : Nat) (sel : MaskSel) (addrs : List (Option Word)) (e : Nat) : Option Word :=
  loadedValue sel (addrs.map (Option.map (fun a => extended (!zeroing sel) n (s.valueAt n a)))) e

/-- A vector load at the addresses `as` that are present in `addrs`. -/
theorem loadElems_onAccesses {s : State} {n : Nat} (h1 : 1 ≤ n) (h8 : n ≤ 8) (rt : RegNo) (sel : MaskSel)
    {addrs : List (Option Word)} {as : List Word} (has : ∀ a, some a ∈ addrs ↔ a ∈ as) {good : Prop}
    (hgood : (∀ a ∈ as, accessible s .read a n) →
      nextWith (loadElems n rt sel addrs s) (wroteElems rt (elemLoaded s n sel addrs) s) → good) :
    onAccesses s .read n as (loadElems n rt sel addrs s) good := by
  constructor
  · intro h
    refine hgood h ?_
    have hl := State.loadMany_values (extendLoad (!zeroing sel) n) h8 fun a ha => h a ((has a).1 ha)
    simp only [extendLoad_extended _ n _ h1 h8] at hl
    rw [loadElems, hl]
    exact ⟨_, rfl, wroteElems_setElems ..⟩
  · rintro ⟨b, hb, hna⟩
    unfold loadElems
    cases hl : s.loadMany n (extendLoad (!zeroing sel) n) addrs with
    | ok ws => exact absurd (State.loadMany_ok hl b ((has b).2 hb)) hna
    | error e =>
      obtain ⟨a, ha, hblock⟩ := State.loadMany_error hl
      exact ⟨a, (has a).1 ha, e, rfl, hblock⟩

/-- A plain vector load gives each element below VL what its address holds, under the mask (R591, R592). -/
theorem elemLoaded_loadAddresses (s : State) (n : Nat) (sel : MaskSel) (addr : Nat → Word) {e : Nat} (he : e < s.vlen) :
    elemLoaded s n sel (s.loadAddresses sel addr) e =
      masked s sel (fun x => extended (!zeroing sel) n (s.valueAt n (addr x))) e := by
  rw [← laneValue_eq_masked]
  simp only [elemLoaded, loadedValue, State.loadAddresses, State.laneValue, List.map_map, List.getElem?_map,
    List.getElem?_range he, Option.map_some, Function.comp_apply]
  cases s.active sel e <;> rfl

/-- A compressed vector load gives position `j` what the `j`-th address holds (R593, R594). -/
theorem elemLoaded_packed (s : State) (n : Nat) (sel : MaskSel) (count : Nat) (addr : Nat → Word) (e : Nat) :
    elemLoaded s n sel ((List.range count).map (fun j => some (addr j))) e =
      packed (zeroing sel) count (fun j => extended (!zeroing sel) n (s.valueAt n (addr j))) e := by
  simp only [elemLoaded, loadedValue, packed, List.map_map, List.getElem?_map]
  by_cases he : e < count
  · simp [he]
  · simp [he, inactiveValue]

/-- The accesses of a plain vector load are the active elements'. -/
theorem mem_loadAddresses (s : State) (sel : MaskSel) (addr : Nat → Word) (a : Word) :
    some a ∈ s.loadAddresses sel addr ↔ a ∈ (activeElements s sel).map addr := by
  simp only [State.loadAddresses, activeElements, List.mem_map, List.mem_filter, Option.ite_none_right_eq_some,
    Option.some.injEq, and_assoc]
  rfl

/-- A plain vector load at the addresses `addr`. -/
theorem loadElems_plain (s : State) {n : Nat} (h1 : 1 ≤ n) (h8 : n ≤ 8) (rt : RegNo) (sel : MaskSel) (addr : Nat → Word) :
    onAccesses s .read n ((activeElements s sel).map addr) (loadElems n rt sel (s.loadAddresses sel addr) s)
      (∃ g : Nat → Word, (∀ x < s.vl.toNat, s.active sel x = true → holdsBytes s .read (addr x) n (g x)) ∧
        nextWith (loadElems n rt sel (s.loadAddresses sel addr) s)
          (wroteElems rt (masked s sel (fun x => extended (!zeroing sel) n (g x))) s)) := by
  refine loadElems_onAccesses h1 h8 rt sel (mem_loadAddresses s sel addr) fun h ⟨t, ht, hw⟩ => ?_
  refine ⟨fun x => s.valueAt n (addr x), fun x hx ha => (State.memRead_valueAt h8 (h _ ?_)).2, t, ht, ?_⟩
  · exact List.mem_map_of_mem (List.mem_filter.2 ⟨List.mem_range.2 hx, ha⟩)
  · exact wroteElems_congr (fun e he => elemLoaded_loadAddresses s n sel addr he) hw

/-- A compressed vector load at the addresses `addr j`, one for each active element. -/
theorem loadElems_compressed (s : State) {n : Nat} (h1 : 1 ≤ n) (h8 : n ≤ 8) (rt : RegNo) (sel : MaskSel) (count : Nat)
    (addr : Nat → Word) :
    onAccesses s .read n ((List.range count).map addr)
      (loadElems n rt sel ((List.range count).map (fun j => some (addr j))) s)
      (∃ g : Nat → Word, (∀ j < count, holdsBytes s .read (addr j) n (g j)) ∧
        nextWith (loadElems n rt sel ((List.range count).map (fun j => some (addr j))) s)
          (wroteElems rt (packed (zeroing sel) count (fun j => extended (!zeroing sel) n (g j))) s)) := by
  refine loadElems_onAccesses h1 h8 rt sel (fun a => by simp) fun h ⟨t, ht, hw⟩ => ?_
  refine ⟨fun j => s.valueAt n (addr j), fun j hj => (State.memRead_valueAt h8 (h _ ?_)).2, t, ht, ?_⟩
  · exact List.mem_map_of_mem (List.mem_range.2 hj)
  · exact wroteElems_congr (fun e _ => elemLoaded_packed s n sel count addr e) hw

/-- The addresses of a vector load, plain or compressed (R591 to R594). -/
def State.loadPlan (s : State) (indexed compressed : Bool) (sel : MaskSel) (addr : Nat → Word) : List (Option Word) :=
  if compressed then s.packedAddresses indexed sel addr else s.loadAddresses sel addr

/-- A vector load: its checks, then its accesses, at the addresses of the statements. -/
theorem vectorLoadOp_form (indexed compressed : Bool) (func4 : BitVec 4) (f : LdF) (s : State)
    {body : StrideF → Nat → Prop}
    (hbody : ∀ m n, 1 ≤ n → n ≤ 8 → vectorLoadOp indexed compressed func4 f s = loadElems n f.rt s.mods.maskSel
      (s.loadPlan indexed compressed s.mods.maskSel (strideAddress s m (s.reg f.ra + s.mods.disp f.disp12))) s →
      body m n) :
    strideForm (vectorLoadOp indexed compressed func4 f s) s indexed (f.ta || !f.tt) func4 body := by
  refine strideForm_of_withStride rfl (fun m h => ?_) fun m h ho => ?_
  · rw [sizeBytes_reserved h]
  · obtain ⟨h1, h8⟩ := accessBytes_bounds h
    rw [sizeBytes_valid h] at ho
    refine hbody m _ h1 h8 (ho.trans ?_)
    rw [← elemAddress_eq_strideAddress]
    rfl

/-- The addresses of a compressed strided load are the first ones (R593). -/
theorem loadPlan_strided (s : State) (sel : MaskSel) (addr : Nat → Word) :
    s.loadPlan false true sel addr = (List.range (activeElements s sel).length).map (fun j => some (addr j)) := rfl

/-- The addresses of a compressed indexed load are the active elements' (R594). -/
theorem loadPlan_indexed (s : State) (sel : MaskSel) (addr : Nat → Word) :
    s.loadPlan true true sel addr =
      (List.range (activeElements s sel).length).map (fun j => some (addr ((activeElements s sel).getD j 0))) :=
  map_eq_map_range_getD (activeElements s sel) 0 (fun x => some (addr x))

/-- Settles O59: the four loads differ in their addresses only. -/
theorem vectorLoads : Obligations.VectorLoads := by
  intro s f func4
  refine ⟨vectorLoadOp_form false false func4 f s fun m n h1 h8 ho => ?strided,
    vectorLoadOp_form true false func4 f s fun m n h1 h8 ho => ?indexed,
    vectorLoadOp_form false true func4 f s fun m n h1 h8 ho => ?stridedCompressed,
    vectorLoadOp_form true true func4 f s fun m n h1 h8 ho => ?indexedCompressed⟩
  case strided =>
    rw [show exec (.lds func4 f) s = _ from ho]
    exact loadElems_plain s h1 h8 f.rt _ _
  case indexed =>
    rw [show exec (.ldVX func4 f) s = _ from ho]
    exact loadElems_plain s h1 h8 f.rt _ _
  case stridedCompressed =>
    rw [show exec (.cvlds func4 f) s = _ from ho, loadPlan_strided]
    exact loadElems_compressed s h1 h8 f.rt _ _ _
  case indexedCompressed =>
    rw [show exec (.cvldVX func4 f) s = _ from ho, loadPlan_indexed]
    exact loadElems_compressed s h1 h8 f.rt _ _ _

/-! ## The stores -/

/-- Stores in order change what a store changes. -/
theorem storedInOrder_frame {n : Nat} {l : List (Word × Word)} {s t : State} (h : storedInOrder n l s t) :
    t = { s with mem := t.mem, stale := t.stale, deviceOut := t.deviceOut } := by
  induction l generalizing s with
  | nil => exact h ▸ rfl
  | cons p l ih =>
    obtain ⟨u, hu, ht⟩ := h
    rw [ih ht, hu.1]

/-- Stores that are all accessible are all made, in order. -/
theorem State.storeMany_stored {n : Nat} {l : List (Word × Word)} {s : State} (h : ∀ p ∈ l, accessible s .write p.1 n) :
    ∃ t, s.storeMany n l = .ok t ∧ storedInOrder n l s t := by
  induction l generalizing s with
  | nil => exact ⟨s, rfl, rfl⟩
  | cons p l ih =>
    obtain ⟨a, w⟩ := p
    obtain ⟨u, hu, hst⟩ := State.memWrite_stored s a w n (h _ List.mem_cons_self)
    obtain ⟨t, ht, hrest⟩ := ih fun q hq => storedBytes_accessible hst (h q (List.mem_cons_of_mem _ hq))
    exact ⟨t, by simp only [State.storeMany, hu, ht], u, hst, hrest⟩

/-- A vector store after its addresses and data (R590). -/
def storeElems (n : Nat) (l : List (Word × Word)) (s : State) : Out :=
  match s.storeMany n l with
  | .error e => .refused e
  | .ok t => .next t.advance

/-- A vector store of the pairs `l`. -/
theorem storeElems_onAccesses (n : Nat) (l : List (Word × Word)) (s : State) :
    onAccesses s .write n (l.map (fun p => p.1)) (storeElems n l s)
      (nextWith (storeElems n l s) (fun t => ∃ u, storedInOrder n l s u ∧
        t = { u with ip := s.ipNext, mods := Mods.empty })) := by
  constructor
  · intro h
    obtain ⟨u, hu, hst⟩ := State.storeMany_stored fun p hp => h p.1 (List.mem_map_of_mem hp)
    have hip : u.ipNext = s.ipNext := by
      rw [storedInOrder_frame hst]
      rfl
    rw [storeElems, hu, ← hip]
    exact ⟨_, rfl, u, hst, rfl⟩
  · rintro ⟨b, hb, hna⟩
    obtain ⟨p, hp, rfl⟩ := List.mem_map.1 hb
    unfold storeElems
    cases hl : s.storeMany n l with
    | ok t => exact absurd (State.storeMany_ok hl p hp) hna
    | error e =>
      obtain ⟨q, hq, hblock⟩ := State.storeMany_error hl
      exact ⟨q.1, List.mem_map_of_mem hq, e, rfl, hblock⟩

/-- A compressed vector store, refused while the zeroing bit is in force (R597). -/
theorem storeElems_unlessZeroing {n : Nat} {l : List (Word × Word)} {s : State} {sel : MaskSel} {o : Out}
    (ho : o = if zeroing sel = true then .refused .compressZero else storeElems n l s) :
    if zeroing sel = true then o = .refused .compressZero
    else
      onAccesses s .write n (l.map (fun p => p.1)) o
        (nextWith o (fun t => ∃ u, storedInOrder n l s u ∧ t = { u with ip := s.ipNext, mods := Mods.empty })) := by
  by_cases hz : zeroing sel = true
  · rw [if_pos hz] at ho ⊢
    exact ho
  · rw [if_neg hz] at ho ⊢
    exact ho ▸ storeElems_onAccesses n l s

/-- The pairs of a vector store, plain or compressed (R595 to R598). -/
def State.storePlan (s : State) (compressed : Bool) (sel : MaskSel) (addr data : Nat → Word) : List (Word × Word) :=
  if compressed then s.packedPairs sel addr data else s.storePairs sel addr data

/-- The pairs of a plain vector store: the elements that the mask gives a value (R595, R596). -/
theorem storePlan_plain (s : State) (sel : MaskSel) (addr data : Nat → Word) :
    s.storePlan false sel addr data =
      (List.range s.vl.toNat).filterMap (fun x => (masked s sel data x).map (fun w => (addr x, w))) := by
  show s.storePairs sel addr data = _
  simp only [State.storePairs, laneValue_eq_masked]
  rfl

/-- The pairs of a compressed vector store: the j-th active element at the j-th address (R597, R598). -/
theorem storePlan_compressed (s : State) (sel : MaskSel) (addr data : Nat → Word) :
    s.storePlan true sel addr data =
      (List.range (activeElements s sel).length).map (fun j => (addr j, data ((activeElements s sel).getD j 0))) := by
  show (activeElements s sel).zipIdx.map (fun p => (addr p.2, data p.1)) = _
  apply List.ext_getElem
  · simp
  · intro j hj _
    have h : j < (activeElements s sel).length := by simpa using hj
    simp [h]

/-- A vector store: its checks, then its accesses, at the addresses of the statements; compressed it is refused while the
zeroing bit is in force (R597). -/
theorem vectorStoreOp_form (indexed compressed : Bool) (func4 : BitVec 4) (f : StF) (s : State)
    {body : StrideF → Nat → Prop}
    (hbody : ∀ m n, vectorStoreOp indexed compressed func4 f s =
      (if (compressed && zeroing s.mods.maskSel) = true then .refused .compressZero
      else storeElems n (s.storePlan compressed s.mods.maskSel
        (strideAddress s m (s.reg f.ra + s.mods.disp f.disp11)) (s.srcSpec .signed f.tb f.rb)) s) → body m n) :
    strideForm (vectorStoreOp indexed compressed func4 f s) s indexed f.ta func4 body := by
  refine strideForm_of_withStride rfl (fun m h => ?_) fun m h ho => ?_
  · rw [sizeBytes_reserved h]
  · rw [sizeBytes_valid h] at ho
    refine hbody m _ (ho.trans ?_)
    rw [← elemAddress_eq_strideAddress]
    rfl

/-- Settles O60: the four stores differ in their pairs only, and the compressed ones in their check of the zeroing bit. -/
theorem vectorStores : Obligations.VectorStores := by
  intro s f func4
  refine ⟨vectorStoreOp_form false false func4 f s fun m n ho => ?strided,
    vectorStoreOp_form true false func4 f s fun m n ho => ?indexed,
    vectorStoreOp_form false true func4 f s fun m n ho => ?stridedCompressed,
    vectorStoreOp_form true true func4 f s fun m n ho => ?indexedCompressed⟩
  case strided =>
    rw [show exec (.sts func4 f) s = _ from ho.trans (if_neg Bool.false_ne_true), storePlan_plain]
    exact storeElems_onAccesses n _ s
  case indexed =>
    rw [show exec (.stVX func4 f) s = _ from ho.trans (if_neg Bool.false_ne_true), storePlan_plain]
    exact storeElems_onAccesses n _ s
  case stridedCompressed =>
    rw [storePlan_compressed] at ho
    exact storeElems_unlessZeroing ho
  case indexedCompressed =>
    rw [storePlan_compressed] at ho
    exact storeElems_unlessZeroing ho

end Sys2Proof.Machine

/-! The decoder and the encoder (O1, O2, O3): the round trip from instructions to words and back, from one lemma per
constructor, and that the decoder answers the canonical terms only, from one lemma per opcode map. -/

namespace Sys2Proof.Laws.RoundTrip

/-- Every constructor has its lemma; they stand here in the order of `Instr`. -/
theorem roundTrip : ∀ i : Instr, Statement i := by
  apply Instr.rec
  exacts [
    brk, cntlz, cntlo, cntpop, com, notL, neg, abs, nabs, sqrt, zxb, zxw, zxt, sxb, sxw, sxt, v2bits, vbits2v,
    vcmprss, vcidx, vscan, andR, orR, xorR, addR, sub, mulR, nand, nor, xnor, mulfR0D, muluR, divR, divuR, remR,
    remuR, permR, dif, sll, slli, wydndxR, mulfR, cmp, srl, srli, u21ndxR, seqR, sneR, min, max, sltR, sge, sltuR,
    sgeu, bmm, mxorB, setm, vsllv, vsrlv, vex, veins, rdCoeff, wrCoeff, mux, sllp, sllpi, ptrdif, chkR, blend, addI,
    subf, mulI, andI, orI, xorI, muluI, divI, divuI, mulfI, permI, remI, remuI, wydndxI, divr, u21ndxI, seqI, sneI,
    sltI, sgtI, sltuI, sgtuI, chkI, csrx, csrr, csrw, csrs, csrc, bytndxR, bytndxI, dep, ext, extu, ffo, dfabs,
    fmov, fsqrt, fabs, fnabs, fneg, fmin, fmax, fadd, fsub, fmul, fdiv, fcmp, fseq, fslt, fsle, fsne, fcmpb, fsetm,
    fdp, mand, morM, mxorM, madd, msub, msll, msrl, mnand, mnor, mxnor, mfill, mpop, mfirst, mlast, mtm, mfm, mtvl,
    mfvl, cntlzM, nop, blt, bge, bltu, bgeu, bbs, beq, bne, vectorBranch, exi0, exi1, exi2, imod, btfld, brmod,
    stride, ldx, ldxZ, ldxX, ldxXZ, ldb, ldbx, ldbz, ldbxz, ldw, ldwx, ldwz, ldwxz, ldt, ldtx, ldtz, ldtxz, ldo,
    ldox, ldoz, ldoxz, cache, lea, leaV, stx, stxX, stb, stbx, stw, stwx, stt, sttx, sto, stox, stptr, stptrx, stbz,
    stwz, sttz, stoz, jal, jmp, bal, bra, bsr, jalr, push, pop, peek, stat, pushi, popi, peeki, stati, rex, rte,
    tlbrw, sysOther, lds, ldVX, cvlds, cvldVX, sts, stVX, cvsts, cvstVX, eorR, eorI, morB, negSubf, sra, srlp, sgtR,
    sgtuR, sle, sleu, sign, signF, fsgt, fsge, bgt, ble, bgtu, bleu, tst, ptrinc, transform, mulh, divsuR, remsuR,
    mulsuR, mulsuh, muluh, rgf, mort, mxort, divsuI, mulsuI, remsuI, sand, sor, setGroup, df1, df2, pst1, pst2, df3,
    df4, pst3, pst4, frsqrte, ftoi, itof, fsign, fman, fs2d, fs2q, fd2q, fstat, isnan, finite, ftx, fcx, fex, fdx,
    frm, trunc, fsync, fres, fsigmoid, fd2s, fq2s, fq2d, fclass1, unord, scaleb, frem, fnxt, fandB, forB, cpysgn,
    sgninv, sgnand, sgnor, sgnxor, sgnxnor, fclass2, fma, fms, fnma, fnms, fblt, fbge, dfblt, dfbge, fbeq, fbne,
    exi3, exi4, unnamed5B, vectorHalf, lsm, ret, llal, llah, lpal, lpah, pfi, wfi, setkey, setto, getto, getzl,
    mvseg, sync]

end Sys2Proof.Laws.RoundTrip

namespace Sys2Proof

/-- Settles O1: the constructors' lemmas together. -/
theorem decodeOfEncode : Obligations.DecodeOfEncode := Laws.RoundTrip.roundTrip

/-! ## What the decoder answers -/

/-- If a map answers an instruction, it is a canonical one. -/
def AnswersWellFormed (r : Except DecodeError Instr) : Prop := ∀ i, r = .ok i → i.wellFormed = true

@[simp] theorem answersWellFormed_ok (i : Instr) : AnswersWellFormed (.ok i) ↔ i.wellFormed = true := by
  simp [AnswersWellFormed]

@[simp] theorem answersWellFormed_error (e : DecodeError) : AnswersWellFormed (.error e) := by
  simp [AnswersWellFormed]

@[simp] theorem answersWellFormed_scalarHalf (w : Code) (r : Except DecodeError Instr) :
    AnswersWellFormed (scalarHalf w r) ↔ (bit w 7 = false → AnswersWellFormed r) := by
  unfold scalarHalf
  split <;> simp [*]

@[simp] theorem answersWellFormed_scalarOnly (w : Code) (i : Instr) :
    AnswersWellFormed (scalarOnly w i) ↔ (bit w 7 = false → i.wellFormed = true) := by
  unfold scalarOnly
  split <;> simp [*]

@[simp] theorem answersWellFormed_vectorOnly (w : Code) (i : Instr) :
    AnswersWellFormed (vectorOnly w i) ↔ (bit w 7 = true → i.wellFormed = true) := by
  unfold vectorOnly
  split <;> simp [*]

@[simp] theorem answersWellFormed_halfOr (w : Code) (i : Instr) :
    AnswersWellFormed (halfOr w i) ↔ (bit w 7 = false → i.wellFormed = true) := by
  have hv : Instr.wellFormed .vectorHalf = true := rfl
  unfold halfOr
  split <;> simp [*]

@[simp] theorem answersWellFormed_branchOr (w : Code) (i : Instr) :
    AnswersWellFormed (branchOr w i) ↔ (bit w 7 = false → i.wellFormed = true) := by
  have hv : Instr.wellFormed (.vectorBranch (fld w 0 3)) = true := rfl
  unfold branchOr
  split <;> simp [*]

section Maps

variable (w : Code)

@[simp] theorem decodeR1_wellFormed : AnswersWellFormed (decodeR1 w) := by
  unfold decodeR1
  split <;> simp [Instr.wellFormed, R1F.ofWord]

@[simp] theorem decodeR2_wellFormed : AnswersWellFormed (decodeR2 w) := by
  unfold decodeR2
  split <;> simp [Instr.wellFormed, R2F.ofWord]

@[simp] theorem decodeR3_wellFormed : AnswersWellFormed (decodeR3 w) := by
  unfold decodeR3
  split <;> simp [Instr.wellFormed]

@[simp] theorem decodeBitField_wellFormed : AnswersWellFormed (decodeBitField w) := by
  unfold decodeBitField
  split <;> simp [Instr.wellFormed]

@[simp] theorem decodeF1_wellFormed : AnswersWellFormed (decodeF1 w) := by
  unfold decodeF1
  split <;> simp [Instr.wellFormed]

@[simp] theorem decodeF2_wellFormed : AnswersWellFormed (decodeF2 w) := by
  unfold decodeF2
  split <;> simp [Instr.wellFormed]

@[simp] theorem decodeF3_wellFormed : AnswersWellFormed (decodeF3 w) := by
  unfold decodeF3
  split <;> simp [Instr.wellFormed]

@[simp] theorem decodeF4_wellFormed : AnswersWellFormed (decodeF4 w) := by
  unfold decodeF4
  split <;> simp [Instr.wellFormed]

@[simp] theorem decodeDF1_wellFormed : AnswersWellFormed (decodeDF1 w) := by
  unfold decodeDF1
  split <;> simp [Instr.wellFormed]

@[simp] theorem decodeVM_wellFormed : AnswersWellFormed (decodeVM w) := by
  unfold decodeVM
  split <;> simp [Instr.wellFormed]

@[simp] theorem decodeSys_wellFormed : AnswersWellFormed (decodeSys w) := by
  unfold decodeSys
  split <;> simp_all [Instr.wellFormed, sysCellEmpty]

@[simp] theorem decodeBytndx_wellFormed : AnswersWellFormed (decodeBytndx w) := by
  unfold decodeBytndx
  split <;> simp [Instr.wellFormed]

@[simp] theorem decodeCsr_wellFormed : AnswersWellFormed (decodeCsr w) := by
  unfold decodeCsr
  split <;> simp [Instr.wellFormed]

@[simp] theorem decodeLoad_wellFormed : AnswersWellFormed (decodeLoad w) := by
  unfold decodeLoad
  split <;> simp_all [Instr.wellFormed]

@[simp] theorem decodeLoadZ_wellFormed : AnswersWellFormed (decodeLoadZ w) := by
  unfold decodeLoadZ
  split <;> simp_all [Instr.wellFormed]

@[simp] theorem decodeLoadX_wellFormed : AnswersWellFormed (decodeLoadX w) := by
  unfold decodeLoadX
  split <;> simp_all [Instr.wellFormed]

@[simp] theorem decodeLoadXZ_wellFormed : AnswersWellFormed (decodeLoadXZ w) := by
  unfold decodeLoadXZ
  split <;> simp_all [Instr.wellFormed]

@[simp] theorem decodeStore_wellFormed : AnswersWellFormed (decodeStore w) := by
  unfold decodeStore
  split <;> simp_all [Instr.wellFormed]

@[simp] theorem decodeStoreX_wellFormed : AnswersWellFormed (decodeStoreX w) := by
  unfold decodeStoreX
  split <;> simp_all [Instr.wellFormed]

@[simp] theorem decodeJal_wellFormed : AnswersWellFormed (decodeJal w) := by
  unfold decodeJal
  split <;> simp_all [Instr.wellFormed]

@[simp] theorem decodeBal_wellFormed : AnswersWellFormed (decodeBal w) := by
  unfold decodeBal
  split <;> simp_all [Instr.wellFormed]

@[simp] theorem decodeJalr_wellFormed : AnswersWellFormed (decodeJalr w) := by
  unfold decodeJalr
  split <;> simp [Instr.wellFormed, *]

/-- The Root Opcode Map answers canonical terms only: its own rows do, and so do the maps it names. -/
theorem decode_wellFormed : AnswersWellFormed (decode w) := by
  unfold decode
  split <;> simp [Instr.wellFormed]

end Maps

/-- Settles O2: what the decoder answers is canonical, and by O1 a canonical term has a word that decodes to it. -/
theorem decodedIsWellFormed : Obligations.DecodedIsWellFormed := by
  intro w i hw
  have hi : i.wellFormed = true := decode_wellFormed w i hw
  obtain ⟨u, hu, hd⟩ := decodeOfEncode i hi
  exact ⟨hi, u, hu, hd.trans hw.symm⟩

/-- Settles O3: each word's root opcode names its row or its map. -/
theorem specWordsDecode : Obligations.SpecWordsDecode :=
  ⟨rfl, rfl, rfl, rfl, rfl, rfl, rfl⟩

end Sys2Proof

/-! Operands and the constants of modifier words (O15, O16, O17, O18): what the type codes select, and what EXI, IMOD,
BTFLD and STRIDE words supply. -/

namespace Sys2Proof.Machine

/-! ## Words -/

theorem toInt_sext {n : Nat} (x : BitVec n) (h : n ≤ 64) : (sext x).toInt = x.toInt := BitVec.toInt_signExtend_of_le h

theorem toNat_append_mul {n k : Nat} (x : BitVec n) (y : BitVec k) : (x ++ y).toNat = x.toNat * 2 ^ k + y.toNat := by
  rw [BitVec.toNat_append, ← Nat.shiftLeft_add_eq_or_of_lt y.isLt, Nat.shiftLeft_eq]

/-! ## Source operands -/

/-- The six bits of a constant operand as a number (R131). -/
theorem toNat_constantBits (ty : BitVec 2) (r : RegNo) :
    (ty.extractLsb' 0 1 ++ r : BitVec 6).toNat = 32 * (ty.toNat % 2) + r.toNat := by
  rw [toNat_append_mul, BitVec.extractLsb'_toNat, Nat.shiftRight_zero, Nat.mul_comm]
  rfl

/-- A type code that selects no register selects a constant (R131). -/
theorem State.srcSpec_constant (s : State) (k : ConstKind) {ty : BitVec 2} (h : 2 ≤ ty.toNat) (r : RegNo) (e : Nat) :
    s.srcSpec k ty r e = constValue k (ty.extractLsb' 0 1 ++ r : BitVec 6) := by
  have h0 : ty ≠ 0#2 := by rintro rfl; exact absurd h (by decide)
  have h1 : ty ≠ 1#2 := by rintro rfl; exact absurd h (by decide)
  rw [State.srcSpec, if_neg h0, if_neg h1]

/-- A float constant has sign 0, exponent field 1020 + e and fraction s << 49 (R133). -/
theorem toNat_floatConst : ∀ c : BitVec 6,
    (floatConst c).toNat = (1020 + c.toNat / 8) * 2 ^ 52 + (c.toNat % 8) * 2 ^ 49 := by
  decide

/-- Settles O15: registers by type code 0 and 1, and the three readings of the six bits of a constant. -/
theorem operandValues : Obligations.OperandValues := by
  intro s r ty e
  refine ⟨rfl, rfl, fun k => ⟨rfl, rfl⟩, fun h => ?_⟩
  have hc := toNat_constantBits ty r
  have hr := r.isLt
  have hb : ty.toNat % 2 < 2 := Nat.mod_lt _ (by decide)
  simp only [s.srcSpec_constant _ h, constValue]
  refine ⟨by rw [zext_ofNat, hc], ?_, ?_⟩
  · rw [sext_ofInt, BitVec.toInt_eq_toNat_cond, hc]
    congr 1
    split <;> omega
  · rw [toNat_floatConst, hc]
    congr 2 <;> omega

/-! ## What IMOD, BTFLD and STRIDE supply -/

theorem getLsbD_zero_iff : ∀ a : BitVec 2, a.getLsbD 0 = true ↔ a = 1#2 ∨ a = 3#2 := by decide

theorem getLsbD_one_iff : ∀ a : BitVec 2, a.getLsbD 1 = true ↔ a = 2#2 ∨ a = 3#2 := by decide

/-- Settles O16, by the word that ends the modifiers. -/
theorem modifierOperands : Obligations.ModifierOperands := by
  intro s k e
  refine ⟨fun h => ?_, fun f h => ?_, fun f h => ?_, fun f h => ?_, fun f h => ?_⟩
  · simp [State.opC, State.opD, Mods.rc, Mods.rd, Mods.maskSel, Mods.rounding, State.srcSpec, h]
  · simp only [State.opC, State.opD, Mods.rc, Mods.rd, Mods.constKind, h, and_self]
  · simp only [State.opC, State.opD, Mods.rc, Mods.rd, Mods.constKind, h, and_self]
  · rcases h with h | h <;> simp only [Mods.maskSel, Mods.rounding, h, getLsbD_zero_iff, getLsbD_one_iff, and_self]
  · simp only [Mods.maskSel, Mods.rounding, h, getLsbD_zero_iff, and_self]

/-! ## What EXI words supply -/

section Constants

variable {m : Mods} (base : Word) (c : BitVec 10) {e0 e1 : BitVec 28}

/-- Without EXI words an instruction reads its own constant. -/
theorem Mods.imm_own (h : m.exi0 = none) : m.imm base c = base := by
  simp only [Mods.imm, h]

theorem Mods.imm_exi0 (h0 : m.exi0 = some e0) (h1 : m.exi1 = none) : m.imm base c = sext (e0 ++ c : BitVec 38) := by
  simp only [Mods.imm, h0, h1]

theorem Mods.imm_exi1 (h0 : m.exi0 = some e0) (h1 : m.exi1 = some e1) :
    m.imm base c = (e1.extractLsb' 0 26 ++ e0 ++ c : BitVec 64) := by
  simp only [Mods.imm, h0, h1]

/-- Behind EXI words the instruction's own reading of its constant does not count. -/
theorem Mods.imm_exi (base' : Word) (h : m.exi0 = some e0) : m.imm base c = m.imm base' c := by
  cases h1 : m.exi1 with
  | none => rw [Mods.imm_exi0 base c h h1, Mods.imm_exi0 base' c h h1]
  | some e1 => rw [Mods.imm_exi1 base c h h1, Mods.imm_exi1 base' c h h1]

end Constants

/-- Settles O17, by the number of EXI words. -/
theorem constantAssembly : Obligations.ConstantAssembly := by
  intro m base c e0 e1
  have hc := c.isLt
  have he0 := e0.isLt
  refine ⟨fun h0 => Mods.imm_own base c h0, fun h0 h1 => ?_, fun h0 h1 => ?_⟩
  · rw [Mods.imm_exi0 base c h0 h1, toInt_sext _ (by decide), BitVec.toInt_eq_toNat_cond, toNat_append_mul]
    refine if_congr ?_ rfl ?_
    · omega
    · norm_num
  · rw [Mods.imm_exi1 base c h0 h1, toNat_append_mul, toNat_append_mul, BitVec.extractLsb'_toNat, Nat.shiftRight_zero]
    omega

/-! ## Displacements -/

section Displacements

variable {m : Mods} {n : Nat} (c : BitVec n)

/-- Without EXI and STRIDE words a displacement is the field. -/
theorem Mods.disp_own (h : m.exi0 = none) (ht : ∀ f, m.tail ≠ some (.stride f)) : m.disp c = sext c := by
  unfold Mods.disp
  split
  · exact absurd ‹_› (ht _)
  · exact Mods.imm_own _ _ h

/-- With a STRIDE word alone its Const14 stands above the field. -/
theorem Mods.disp_stride {f : StrideF} (h : m.exi0 = none) (ht : m.tail = some (.stride f)) :
    m.disp c = sext (f.c14 ++ c) := by
  simp only [Mods.disp, ht, Mods.imm_own _ _ h]

/-- Behind EXI words a displacement is theirs, before a STRIDE word too. -/
theorem Mods.disp_exi {e0 : BitVec 28} (h : m.exi0 = some e0) : m.disp c = m.imm 0#64 (c.extractLsb' 0 10) := by
  unfold Mods.disp
  split <;> exact Mods.imm_exi _ _ _ h

end Displacements

/-- Const14 above a field counts in units of the field's range. -/
theorem toInt_const14_append {n : Nat} (x : BitVec 14) (y : BitVec n) : (x ++ y).toInt = x.toInt * 2 ^ n + y.toNat := by
  rw [BitVec.toInt_append, if_neg (by decide), Int.mul_comm]

/-- Settles O18, by the words that stand before the instruction. -/
theorem displacements : Obligations.Displacements := by
  intro m c12 c11
  refine ⟨fun h ht => ?_, fun f h ht => ?_, fun e0 h => ⟨Mods.disp_exi c12 h, Mods.disp_exi c11 h⟩⟩
  · rw [Mods.disp_own c12 h ht, Mods.disp_own c11 h ht]
    exact ⟨toInt_sext c12 (by decide), toInt_sext c11 (by decide)⟩
  · rw [Mods.disp_stride c12 h ht, Mods.disp_stride c11 h ht, toInt_sext _ (by decide), toInt_sext _ (by decide)]
    exact ⟨toInt_const14_append f.c14 c12, toInt_const14_append f.c14 c11⟩

end Sys2Proof.Machine

/-! The integer instructions of two operands, a register or an immediate (O22, O26, O27): each format's rule, with the
value of the instruction's own formula by the laws of words. -/

namespace Sys2Proof.Machine

theorem mul_ofNat_toNat (a b : Word) : a * b = BitVec.ofNat 64 (a.toNat * b.toNat) := by
  rw [BitVec.ofNat_mul, BitVec.ofNat_toNat, BitVec.ofNat_toNat, BitVec.setWidth_eq, BitVec.setWidth_eq]

/-- Settles O22: R2 format throughout. -/
theorem binaryArithmetic : Obligations.BinaryArithmetic :=
  ⟨r2Op_form _ _ _ _ (fun _ _ => rfl) add_ofInt_toInt,
    r2Op_form _ _ _ _ (fun _ _ => rfl) sub_ofInt_toInt,
    r2Op_form _ _ _ _ (fun _ _ => rfl) mul_ofInt_toInt,
    r2Op_form _ _ _ _ (fun _ _ => rfl) mul_ofNat_toNat,
    r2Op_form _ _ _ _ (fun _ _ => rfl) fastMul_eq,
    r2Op_form _ _ _ _ (fun _ _ => rfl) fastMul_eq,
    r2Op_form _ _ _ _ (fun _ _ => rfl) (quotSigned_eq .div),
    r2Op_form _ _ _ _ (fun _ _ => rfl) (quotUnsigned_eq .divu),
    r2Op_form _ _ _ _ (fun _ _ => rfl) remSigned_eq,
    r2Op_form _ _ _ _ (fun _ _ => rfl) remUnsigned_eq,
    r2Op_form _ _ _ _ (fun _ _ => rfl) distance_eq,
    r2Op_form _ _ _ (fun a b => if a.slt b then a else b) (fun _ _ => rfl) fun a b => by simp only [slt_iff_toInt],
    r2Op_form _ _ _ (fun a b => if b.slt a then a else b) (fun _ _ => rfl) fun a b => by simp only [slt_iff_toInt]⟩

/-- The alternate mnemonics without a second source. -/
theorem singleForm_of_elementOp (c : RtF → Instr) (g g' : Word → Word)
    (hc : ∀ f s, exec (c f) s =
      withMods .plain s (elementOp f.v f.tt f.rt f.ta s.mods.maskSel (fun e => g' (s.srcA f.ta f.ra e)) s))
    (h : ∀ a, g' a = g a) : singleForm c g := by
  intro f s hs
  rw [hc, withMods_fit _ _ _ hs]
  exact elementwise_congr (fun e => h _) (elementOp_elementwise ..)

/-- Settles O26: RI format, and NEG without a second source. -/
theorem immediateArithmetic : Obligations.ImmediateArithmetic :=
  ⟨riOp_form _ _ _ _ _ (fun _ _ => rfl) sext_ofInt add_ofInt_toInt,
    riOp_form _ _ sext _ (fun a i => i - a) (fun _ _ => rfl) sext_ofInt fun a i => sub_ofInt_toInt i a,
    singleForm_of_elementOp _ _ (fun a => 0#64 - a) (fun _ _ => rfl) fun a => sub_ofInt_toInt 0#64 a,
    riOp_form _ _ _ _ _ (fun _ _ => rfl) sext_ofInt mul_ofInt_toInt,
    riOp_form _ _ _ _ _ (fun _ _ => rfl) zext_ofNat mul_ofNat_toNat,
    riOp_form _ _ _ _ _ (fun _ _ => rfl) zext_ofNat fastMul_eq,
    riOp_form _ _ _ _ _ (fun _ _ => rfl) sext_ofInt (quotSigned_eq .div),
    riOp_form _ _ sext _ (fun a i => quotSigned .divr i a) (fun _ _ => rfl) sext_ofInt fun a i => quotSigned_eq .divr i a,
    riOp_form _ _ _ _ _ (fun _ _ => rfl) zext_ofNat (quotUnsigned_eq .divu),
    riOp_form _ _ _ _ _ (fun _ _ => rfl) sext_ofInt remSigned_eq,
    riOp_form _ _ _ _ _ (fun _ _ => rfl) sext_ofInt remUnsigned_eq,
    riOp_form _ _ _ _ _ (fun _ _ => rfl) oext_ofNat fun _ _ => rfl,
    riOp_form _ _ _ _ _ (fun _ _ => rfl) zext_ofNat fun _ _ => rfl,
    riOp_form _ _ _ _ _ (fun _ _ => rfl) zext_ofNat fun _ _ => rfl,
    riOp_form _ _ _ _ _ (fun _ _ => rfl) zext_ofNat fun _ _ => rfl⟩

/-- Settles O27: RI format throughout. -/
theorem immediateCompareAndSearch : Obligations.ImmediateCompareAndSearch :=
  ⟨riOp_form _ _ sext _ (fun a i => boolWord (a == i)) (fun _ _ => rfl) sext_ofInt
      fun _ _ => boolWord_truth _ _ beq_iff_eq,
    riOp_form _ _ sext _ (fun a i => boolWord (a != i)) (fun _ _ => rfl) sext_ofInt
      fun _ _ => boolWord_truth _ _ bne_iff_ne,
    riOp_form _ _ sext _ (fun a i => boolWord (a.slt i)) (fun _ _ => rfl) sext_ofInt
      fun a i => boolWord_truth _ _ (slt_iff_toInt a i),
    riOp_form _ _ sext _ (fun a i => boolWord (i.slt a)) (fun _ _ => rfl) sext_ofInt
      fun a i => boolWord_truth _ _ (slt_iff_toInt i a),
    riOp_form _ _ zext _ (fun a i => boolWord (a.ult i)) (fun _ _ => rfl) zext_ofNat
      fun a i => boolWord_truth _ _ (ult_iff_toNat a i),
    riOp_form _ _ zext _ (fun a i => boolWord (i.ult a)) (fun _ _ => rfl) zext_ofNat
      fun a i => boolWord_truth _ _ (ult_iff_toNat i a),
    riOp_form _ _ zext _ permuteBytes (fun _ _ => rfl) zext_ofNat fun _ _ => rfl,
    riOp_form _ _ zext _ (fun a i => indexOrMinusOne (firstField? 16 4 a (i.extractLsb' 0 16))) (fun _ _ => rfl)
      zext_ofNat fun _ i => by rw [extractLsb'_zero_eq i],
    riOp_form _ _ zext _ (fun a i => indexOrMinusOne (firstField? 21 3 a (i.extractLsb' 0 21))) (fun _ _ => rfl)
      zext_ofNat fun _ i => by rw [extractLsb'_zero_eq i]⟩

end Sys2Proof.Machine

/-! BYTNDX (O28): its three forms and the type codes that fit none, said of the search that its register and its immediate
form share. -/

namespace Sys2Proof.Machine

theorem exec_bytndxR {f : BytRF} {s : State} (hs : s.mods.fit .plain = true) :
    exec (.bytndxR f) s = byteSearchOp f.ta2 f.ra f.tt2 f.rt f.v (isVec f.tb)
      (fun e => (s.srcSpec .signed f.tb f.rb e).setWidth 8) s := by
  simp only [← extractLsb'_zero_eq]
  exact withMods_fit _ _ _ hs

theorem exec_bytndxI {f : BytIF} {s : State} (hs : s.mods.fit .extended = true) :
    exec (.bytndxI f) s = byteSearchOp f.ta2 f.ra f.tt2 f.rt f.v false
      (fun _ => (s.mods.imm (BitVec.ofNat 64 f.imm10.toNat) f.imm10).setWidth 8) s := by
  rw [← zext_ofNat]
  simp only [← extractLsb'_zero_eq]
  exact withMods_fit _ _ _ hs

/-- The first byte as R213 describes it is the one the search over the bytes below VL finds. -/
theorem indexOrMinusOne_of_firstByteOf {s : State} {sel : MaskSel} {ra : RegNo} {key : Nat → Byte} {w : Word}
    (h : firstByteOf s sel ra key w) :
    indexOrMinusOne ((List.range (8 * s.vlen)).find? (fun i => s.active sel (i / 8) &&
      (s.elem ra (i / 8)).extractLsb' (8 * (i % 8)) 8 == key (i / 8))) = w := by
  change indexOrMinusOne ((List.range (8 * s.vl.toNat)).find? _) = w
  rcases h with ⟨i, ⟨hlt, hactive, hkey⟩, hfirst, rfl⟩ | ⟨hnone, rfl⟩
  · rw [List.find?_range_eq_some.2 ⟨_, List.mem_range.2 hlt, fun j hj => ?_⟩]
    · rfl
    · simp [hactive, hkey]
    · simpa [Nat.lt_trans hj hlt, imp_iff_not_or] using hfirst j hj
  · rw [List.find?_range_eq_none.2 fun j hj => ?_]
    · rfl
    · simpa [hj, imp_iff_not_or] using hnone j

/-- An element-wise operation whose type codes fit neither form raises. -/
theorem elementwise_misuse {s : State} {v tt vs : Bool} {rt : RegNo} {sel : MaskSel} {val : Nat → Word} {o : Out}
    (h : elementwise s v tt vs rt sel val o)
    (hbad : v = true ∧ tt = false ∨ v = false ∧ (tt = true ∨ vs = true)) :
    nextWith o (raisedUnimplemented s) := by
  rcases hbad with ⟨rfl, rfl⟩ | ⟨rfl, hb⟩
  · exact h
  · rwa [elementwise, if_neg Bool.false_ne_true, if_pos hb] at h

section ByteSearch

variable {s : State} {ta2 tt2 : BitVec 2} {ra rt : RegNo} {v keyVec : Bool} {key : Nat → Byte}

/-- With a scalar target, but not a vector source in the vector form, or with a vector target, the search goes element by
element. -/
theorem byteSearchOp_elementwise (hv : ¬ (v = true ∧ tt2 = 0#2 ∧ ta2 = 1#2)) (ht : tt2 = 0#2 ∨ tt2 = 1#2) :
    elementwise s v (isVec tt2) (isVec ta2 || keyVec) rt s.mods.maskSel
      (fun e => indexOrMinusOne (firstField? 8 8 (s.srcSpec .signed ta2 ra e) (key e)))
      (byteSearchOp ta2 ra tt2 rt v keyVec key s) := by
  have hbit : ¬ tt2.getLsbD 1 = true := by rcases ht with rfl | rfl <;> decide
  rw [byteSearchOp, if_neg (by simpa [isVec, and_assoc] using hv), if_neg hbit]
  exact elementOp_elementwise ..

/-- A vector source and a scalar target in the vector form: the first byte of all active elements below VL. -/
theorem byteSearchOp_vectorToScalar :
    byteSearchOp 1#2 ra 0#2 rt true keyVec key s =
      withVl s (.next (s.setReg rt (indexOrMinusOne
        ((List.range (8 * s.vlen)).find? (fun i => s.active s.mods.maskSel (i / 8) &&
          (s.elem ra (i / 8)).extractLsb' (8 * (i % 8)) 8 == key (i / 8))))).advance) := rfl

/-- A target that is no register raises. -/
theorem byteSearchOp_reserved (ht : 2 ≤ tt2.toNat) : byteSearchOp ta2 ra tt2 rt v keyVec key s = misuse s := by
  have hne : tt2 ≠ 0#2 := by rintro rfl; exact absurd ht (by decide)
  have hbit : tt2.getLsbD 1 = true := by
    revert ht
    revert tt2
    decide
  rw [byteSearchOp, if_neg (by simp [hne]), if_pos hbit]

/-- One register. -/
theorem byteSearchOp_scalar (ha : isVec ta2 = false) (hk : keyVec = false) :
    nextWith (byteSearchOp ta2 ra 0#2 rt false keyVec key s)
      (wroteReg rt (indexOrMinusOne (firstField? 8 8 (s.srcSpec .signed ta2 ra 0) (key 0))) s) := by
  subst hk
  have h := byteSearchOp_elementwise (s := s) (ta2 := ta2) (ra := ra) (rt := rt) (v := false) (keyVec := false)
    (key := key) (fun h => absurd h.1 Bool.false_ne_true) (.inl rfl)
  rw [ha] at h
  exact h

/-- Into a vector register, per element. -/
theorem byteSearchOp_vector (hvl : s.vl.toNat ≤ s.cfg.vlmax) :
    nextWith (byteSearchOp ta2 ra 1#2 rt true keyVec key s)
      (wroteElems rt (masked s s.mods.maskSel
        (fun e => indexOrMinusOne (firstField? 8 8 (s.srcSpec .signed ta2 ra e) (key e)))) s) := by
  have h := byteSearchOp_elementwise (s := s) (ta2 := ta2) (ra := ra) (rt := rt) (v := true) (keyVec := keyVec)
    (key := key) (fun h => absurd h.2.1 (by decide)) (.inr rfl)
  exact (if_neg (Nat.not_lt.2 hvl)).mp h

theorem byteSearchOp_firstByte {w : Word} (hvl : s.vl.toNat ≤ s.cfg.vlmax) (h : firstByteOf s s.mods.maskSel ra key w) :
    nextWith (byteSearchOp 1#2 ra 0#2 rt true keyVec key s) (wroteReg rt w s) := by
  rw [byteSearchOp_vectorToScalar, withVl_le _ _ hvl, indexOrMinusOne_of_firstByteOf h]
  exact ⟨_, rfl, wroteReg_setReg s rt w⟩

/-- The vector forms are refused while VL exceeds VLMAX (R552). -/
theorem byteSearchOp_vectorLength (hforms : tt2 = 1#2 ∨ tt2 = 0#2 ∧ ta2 = 1#2) (hvl : s.cfg.vlmax < s.vl.toNat) :
    byteSearchOp ta2 ra tt2 rt true keyVec key s = .refused .vectorLength := by
  rcases hforms with rfl | ⟨rfl, rfl⟩
  · exact withVl_gt s _ hvl
  · exact withVl_gt s _ hvl

/-- Type codes that fit no form raise (R172). -/
theorem byteSearchOp_misuse (hbad : v = false ∧ (tt2 ≠ 0#2 ∨ ta2 = 1#2 ∨ keyVec = true) ∨
      v = true ∧ (2 ≤ tt2.toNat ∨ tt2 = 0#2 ∧ ta2 ≠ 1#2)) :
    nextWith (byteSearchOp ta2 ra tt2 rt v keyVec key s) (raisedUnimplemented s) := by
  by_cases hr : 2 ≤ tt2.toNat
  · rw [byteSearchOp_reserved hr]
    exact misuse_raises s
  have ht : tt2 = 0#2 ∨ tt2 = 1#2 := by
    clear hbad
    revert tt2
    decide
  refine elementwise_misuse (byteSearchOp_elementwise ?_ ht) ?_
  · rintro ⟨rfl, rfl, rfl⟩
    simp at hbad
  · rcases hbad with ⟨rfl, hb⟩ | ⟨rfl, hb⟩
    · rcases ht with rfl | rfl <;> simp_all [isVec]
    · exact .inl ⟨rfl, by rcases hb with hb | ⟨rfl, -⟩; exacts [absurd hb hr, rfl]⟩

end ByteSearch

/-- Settles O28: both forms are the search, whose cases these are. -/
theorem byteIndex : Obligations.ByteIndex := by
  intro s
  refine ⟨fun f hs hv ht ha hb => ?_, fun f hs hv ht ha => ?_, fun f hs hv ht hvl => ?_, fun f hs hv ht hvl => ?_,
    fun f w hs hv ht ha hvl h => ?_, fun f w hs hv ht ha hvl h => ?_, fun f hs => ?_, fun f hs => ?_⟩
  · rw [exec_bytndxR hs, hv, ht]
    exact byteSearchOp_scalar ha hb
  · rw [exec_bytndxI hs, hv, ht]
    exact byteSearchOp_scalar ha rfl
  · rw [exec_bytndxR hs, hv, ht]
    exact byteSearchOp_vector hvl
  · rw [exec_bytndxI hs, hv, ht]
    exact byteSearchOp_vector hvl
  · rw [exec_bytndxR hs, hv, ht, ha]
    exact byteSearchOp_firstByte hvl h
  · rw [exec_bytndxI hs, hv, ht, ha]
    exact byteSearchOp_firstByte hvl h
  · rw [exec_bytndxR hs]
    refine ⟨fun hv hforms hvl => ?_, fun hbad => byteSearchOp_misuse (by simpa [isVec] using hbad)⟩
    rw [hv]
    exact byteSearchOp_vectorLength hforms hvl
  · rw [exec_bytndxI hs]
    refine ⟨fun hv hforms hvl => ?_, fun hbad => byteSearchOp_misuse (by simpa using hbad)⟩
    rw [hv]
    exact byteSearchOp_vectorLength hforms hvl

end Sys2Proof.Machine

/-! Undefined words and exceptions (O9), waiting, polling and NOP (O50). -/

namespace Sys2Proof.Machine

/-- A word that decodes to nothing raises. -/
theorem runBundle_undefined {s : State} {w : Code} {e : DecodeError} (n : Nat) (hf : s.fetchCode s.ipWord = .ok w)
    (hd : decode w = .error e) : runBundle (n + 1) s = .next (s.raise .unimplementedInstruction) := by
  simp only [runBundle, hf, hd]

/-- Settles O9: all three raise, whatever the modifiers are. -/
theorem undefinedWordRaises : Obligations.UndefinedWordRaises := by
  refine fun s => ⟨fun n w hf hd => ?_, fun b => misuse_raises s, fun e => ?_⟩
  · rw [runBundle_undefined n hf hd]
    exact misuse_raises s
  · cases e <;> rfl

/-- Settles O50: behind the check of the modifiers, each instruction's one or two cases. -/
theorem waitPollAndNop : Obligations.WaitPollAndNop := by
  intro s hs
  have under : ∀ k : Out, withMods .plain s k = k := fun k => withMods_fit _ _ k hs
  refine ⟨fun c hc => ?_, fun hc => ?_, ⟨_, under _, rfl⟩, ⟨_, under _, onlyAdvanced_advance s⟩,
    ⟨_, under _, onlyAdvanced_advance s⟩,
    fun hv => ⟨_, (under _).trans (withVl_le s _ hv), onlyAdvanced_advance s⟩, fun hv => (under _).trans (withVl_gt s _ hv)⟩
  · refine ⟨_, (under _).trans (by rw [hc]), ?_⟩
    rw [← zext_ofNat]
    exact trapped_takeTrap s c
  · exact ⟨_, (under _).trans (by rw [hc]), onlyAdvanced_advance s⟩

end Sys2Proof.Machine

/-! Modifier words (O19) and the check behind which an instruction takes them (O20). -/

namespace Sys2Proof.Machine

/-! ## Which modifiers an instruction is checked for -/

/-- The check that an instruction stands behind, by the modifiers it takes (R183, R187, R188). -/
def modUse (i : Instr) : ModUse :=
  if takesExi i then if takesStride i then .vectorMemory else .extended
  else if takesBrmod i then .branch else .plain

/-- EXI words do not fit an instruction that does not take them. -/
theorem unfit_of_exi {m : Mods} {i : Instr} (h : m.exi0.isSome = true) (ht : takesExi i = false) :
    m.fit (modUse i) = false := by
  have hexi : m.noExi = false := by simp [Mods.noExi, Option.isNone_eq_false_iff.2 h]
  simp only [modUse, ht]
  cases takesBrmod i <;> simp [Mods.fit, hexi]

/-- BRMOD does not fit an instruction that does not take it. -/
theorem unfit_of_brmod {m : Mods} {i : Instr} {f : BrmodF} (h : m.tail = some (.brmod f)) (ht : takesBrmod i = false) :
    m.fit (modUse i) = false := by
  simp only [modUse, ht]
  cases takesExi i <;> cases takesStride i <;> simp [Mods.fit, h]

/-- STRIDE does not fit an instruction that does not take it. -/
theorem unfit_of_stride {m : Mods} {i : Instr} {f : StrideF} (h : m.tail = some (.stride f))
    (ht : takesStride i = false) : m.fit (modUse i) = false := by
  simp only [modUse, ht]
  cases takesExi i <;> cases takesBrmod i <;> simp [Mods.fit, h]

/-! ## Every instruction stands behind its check -/

/-- An outcome behind the check that the modifiers fit `u`, but for refusals and UnimplementedInstruction. -/
inductive Guarded (u : ModUse) (s : State) : Out → Prop where
  | checked (k : Out) : Guarded u s (withMods u s k)
  | refused (r : Refusal) : Guarded u s (.refused r)
  | raised : Guarded u s (misuse s)

/-- Under modifiers that do not fit, a guarded outcome's only next state is UnimplementedInstruction's. -/
theorem Guarded.raises_of_unfit {u : ModUse} {s t : State} {o : Out} (g : Guarded u s o) (hu : s.mods.fit u = false)
    (h : o = .next t) : raisedUnimplemented s t := by
  cases g with
  | checked k => exact absurd (hu.symm.trans (withMods_next h).1) (by decide)
  | refused r => cases h
  | raised =>
    cases h
    exact trapped_takeTrap s _

/-- STx, whatever its size field says. -/
theorem execStx_guarded (n : BitVec 4) (f : StF) (s : State) : Guarded .extended s (execStx n f s) := by
  unfold execStx
  split
  · exact .checked _
  · split <;> exact .checked _

/-- STxX, whatever its size field says. -/
theorem execStxX_guarded (n : BitVec 4) (f : StxF) (s : State) : Guarded .plain s (execStxX n f s) := by
  unfold execStxX
  split
  · exact .checked _
  · split <;> exact .checked _

/-- Every instruction that is no modifier: those without a described effect are refused, the empty cells raise, and the others
do nothing before the check. -/
theorem exec_guarded (s : State) {i : Instr} (hm : isModifier i = false) : Guarded (modUse i) s (exec i s) := by
  cases i with
  | exi0 | exi1 | exi2 | imod | btfld | brmod | stride => cases hm
  | vectorBranch | sysOther => exact .raised
  | stx n f => exact execStx_guarded n f s
  | stxX n f => exact execStxX_guarded n f s
  | tst | ptrinc | transform | mulh | divsuR | remsuR | mulsuR | mulsuh | muluh | rgf | mort | mxort | divsuI |
  mulsuI | remsuI | sand | sor | setGroup | df1 | df2 | pst1 | pst2 | df3 | df4 | pst3 | pst4 | frsqrte | ftoi
  | itof | fsign | fman | fs2d | fs2q | fd2q | fstat | isnan | finite | ftx | fcx | fex | fdx | frm | trunc |
  fsync | fres | fsigmoid | fd2s | fq2s | fq2d | fclass1 | unord | scaleb | frem | fnxt | fandB | forB | cpysgn
  | sgninv | sgnand | sgnor | sgnxor | sgnxnor | fclass2 | fma | fms | fnma | fnms | fblt | fbge | dfblt |
  dfbge | fbeq | fbne | exi3 | exi4 | unnamed5B | vectorHalf | lsm | llal | llah | lpal | lpah | setkey | setto
  | getto | getzl | mvseg =>
    exact .refused _
  | _ => exact .checked _

/-- Settles O20: a misplaced modifier fails the check that the instruction stands behind. -/
theorem misplacedModifiersDoNothing : Obligations.MisplacedModifiersDoNothing := by
  intro i s t hm h hmis
  have hu : s.mods.fit (modUse i) = false := by
    obtain ⟨hexi, htakes⟩ | ⟨f, htail, htakes⟩ | ⟨f, htail, htakes⟩ := hmis
    · exact unfit_of_exi hexi htakes
    · exact unfit_of_brmod htail htakes
    · exact unfit_of_stride htail htakes
  exact (exec_guarded s hm).raises_of_unfit hu h

/-! ## Where the bundle grammar admits a modifier word -/

/-- Behind no other modifier, EXI0 is recorded. -/
theorem execExi0_empty (p : BitVec 28) {s : State} (h : s.mods = Mods.empty) :
    execExi0 p s = .next { s with mods := { Mods.empty with exi0 := some p } } := by
  rw [execExi0, if_pos h, h]

/-- Behind any modifier, EXI0 is refused. -/
theorem execExi0_nonempty (p : BitVec 28) {s : State} (h : s.mods ≠ Mods.empty) :
    execExi0 p s = .refused .malformedBundle := if_neg h

/-- The modifier that may stand last, where none stands yet. -/
theorem tailOp_none (m : ModTail) {s : State} (h : s.mods.tail = none) :
    tailOp m s = .next { s with mods := { s.mods with tail := some m } } := if_pos h

/-- The modifier that may stand last, behind another. -/
theorem tailOp_some (m : ModTail) {s : State} (h : s.mods.tail.isSome = true) :
    tailOp m s = .refused .malformedBundle := if_neg (Option.isSome_iff_ne_none.1 h)

/-- One more EXI word is out of place without the one before it, behind itself, and behind the last modifier. -/
theorem exi_misplaced {a b : Option (BitVec 28)} {c : Option ModTail}
    (h : a = none ∨ b.isSome = true ∨ c.isSome = true) : ¬ (a.isSome = true ∧ b = none ∧ c = none) := by
  rintro ⟨ha, rfl, rfl⟩
  exact Option.isSome_iff_ne_none.1 ha (by simpa using h)

/-- Settles O19: EXI0, EXI1 and EXI2 in their places and out of them, then the last modifier. -/
theorem modifiersRecordOrRefuse : Obligations.ModifiersRecordOrRefuse := by
  intro s p fi fb fs
  refine ⟨execExi0_empty p, execExi0_nonempty p, fun h0 h1 ht => if_pos ⟨h0, h1, ht⟩, fun h => if_neg (exi_misplaced h),
    fun h1 h2 ht => if_pos ⟨h1, h2, ht⟩, fun h => if_neg (exi_misplaced h), fun ht => ?_, fun ht => ?_, fun i hi => ?_⟩
  · exact ⟨tailOp_none _ ht, tailOp_none _ ht, tailOp_none _ ht, tailOp_none _ ht⟩
  · exact ⟨tailOp_some _ ht, tailOp_some _ ht, tailOp_some _ ht, tailOp_some _ ht⟩
  · simp only [List.mem_cons, List.not_mem_nil, or_false] at hi
    obtain rfl | rfl | rfl | rfl := hi <;> rfl

end Sys2Proof.Machine

/-! The instructions that an opcode map only names (O53), and the word functions of the bit matrices, permutations and
searches (O29) and of the bit fields and colours (O30), bit by bit. -/

namespace Sys2Proof.Machine

/-- Settles O53: each list of instructions has one outcome throughout. -/
theorem namedOnlyInstructionsStop : Obligations.NamedOnlyInstructionsStop := fun _ =>
  ⟨List.map_eq_replicate_iff.1 rfl, rfl, rfl, rfl⟩

/-! ## Low fields of a word -/

theorem toNat_low (a : Word) (n : Nat) : (a.extractLsb' 0 n).toNat = a.toNat % 2 ^ n := by
  rw [BitVec.extractLsb'_toNat, Nat.shiftRight_zero]

/-- A six-bit shift count (R277). -/
theorem toNat_shiftCount (a : Word) : (a.extractLsb' 0 6).toNat = a.toNat % 64 := toNat_low a 6

/-! ## Bit matrices -/

/-- The matrix with ones on its diagonal. -/
def identityMatrix : Word := 0x8040201008040201#64

theorem matrixBit_identityMatrix : ∀ i < 8, ∀ j < 8, matrixBit identityMatrix i j = decide (i = j) := by decide

/-- A matrix is its elements. -/
theorem matrix_ext {a b : Word} (h : ∀ i < 8, ∀ j < 8, matrixBit a i j = true ↔ matrixBit b i j = true) : a = b := by
  apply BitVec.eq_of_getLsbD_eq
  intro p hp
  have hplace : 63 - 8 * ((63 - p) / 8) - (63 - p) % 8 = p := by omega
  have hbit := h ((63 - p) / 8) (by omega) ((63 - p) % 8) (by omega)
  rwa [matrixBit, matrixBit, hplace, ← Bool.eq_iff_iff] at hbit

/-- Element (i, j) of a matrix given by its bits. -/
theorem matrixBit_bitsOf (f : Nat → Nat → Bool) {i j : Nat} (hi : i < 8) (hj : j < 8) :
    matrixBit (bitsOf 64 fun p => f ((63 - p) / 8) ((63 - p) % 8)) i j = f i j := by
  have hrow : (63 - (63 - 8 * i - j)) / 8 = i := by omega
  have hcol : (63 - (63 - 8 * i - j)) % 8 = j := by omega
  rw [matrixBit, getLsbD_bitsOf, hrow, hcol, decide_eq_true (by omega), Bool.true_and]

/-- BMM (R207). -/
theorem matrixBit_matrixMulOr (a b : Word) {i j : Nat} (hi : i < 8) (hj : j < 8) :
    matrixBit (matrixMulOr a b) i j = true ↔ ∃ k < 8, matrixBit a i k = true ∧ matrixBit b k j = true := by
  rw [matrixMulOr, matrixBit_bitsOf (fun i j => (List.range 8).any fun k => matrixBit a i k && matrixBit b k j) hi hj]
  simp only [List.any_eq_true, List.mem_range, Bool.and_eq_true]

/-- MXOR (R208). -/
theorem matrixBit_matrixMulXor (a b : Word) {i j : Nat} (hi : i < 8) (hj : j < 8) :
    matrixBit (matrixMulXor a b) i j = true ↔
      Odd (Finset.card {k : Fin 8 | matrixBit a i k.val = true ∧ matrixBit b k.val j = true}) := by
  rw [matrixMulXor, matrixBit_bitsOf
    (fun i j => (List.range 8).foldl (fun acc k => acc ^^ (matrixBit a i k && matrixBit b k j)) false) hi hj,
    foldl_xor_odd fun k => matrixBit a i k && matrixBit b k j]
  simp only [Bool.and_eq_true]

theorem matrixMulOr_identityMatrix (a : Word) : matrixMulOr a identityMatrix = a := by
  refine matrix_ext fun i hi j hj => (matrixBit_matrixMulOr _ _ hi hj).trans ⟨?_, fun h => ?_⟩
  · rintro ⟨k, hk, ha, hdiag⟩
    rw [matrixBit_identityMatrix k hk j hj, decide_eq_true_iff] at hdiag
    rwa [← hdiag]
  · exact ⟨j, hj, h, by rw [matrixBit_identityMatrix j hj j hj, decide_eq_true rfl]⟩

theorem identityMatrix_matrixMulOr (a : Word) : matrixMulOr identityMatrix a = a := by
  refine matrix_ext fun i hi j hj => (matrixBit_matrixMulOr _ _ hi hj).trans ⟨?_, fun h => ?_⟩
  · rintro ⟨k, hk, hdiag, ha⟩
    rw [matrixBit_identityMatrix i hi k hk, decide_eq_true_iff] at hdiag
    rwa [hdiag]
  · exact ⟨i, hi, by rw [matrixBit_identityMatrix i hi i hi, decide_eq_true rfl], h⟩

/-! ## Permutations and searches -/

/-- PERM (R263): bit t of byte i is bit t of the byte that field i selects. -/
theorem extractLsb'_permuteBytes (a p : Word) {i : Nat} (hi : i < 8) :
    (permuteBytes a p).extractLsb' (8 * i) 8 = a.extractLsb' (8 * (p.extractLsb' (3 * i) 3).toNat) 8 := by
  apply BitVec.eq_of_getLsbD_eq
  intro t ht
  have hbyte : (8 * i + t) / 8 = i := by omega
  have hbit : (8 * i + t) % 8 = t := by omega
  have hin : 8 * i + t < 64 := by omega
  simp only [permuteBytes, BitVec.getLsbD_extractLsb', getLsbD_bitsOf, hbyte, hbit, hin, decide_true, Bool.true_and]

theorem firstField?_eq_some {w count k : Nat} {a : Word} {key : BitVec w} :
    firstField? w count a key = some k ↔
      k < count ∧ a.extractLsb' (w * k) w = key ∧ ∀ j < k, a.extractLsb' (w * j) w ≠ key := by
  simp only [firstField?, List.find?_range_eq_some, List.mem_range, beq_iff_eq, Bool.not_eq_true', beq_eq_false_iff_ne]
  exact and_left_comm

theorem firstField?_eq_none {w count : Nat} {a : Word} {key : BitVec w} :
    firstField? w count a key = none ↔ ∀ j < count, a.extractLsb' (w * j) w ≠ key := by
  simp only [firstField?, List.find?_range_eq_none, Bool.not_eq_true', beq_eq_false_iff_ne]

/-- Settles O29: matrix products by element, permutations by byte, searches by the first field that is equal. -/
theorem wordFunctions : Obligations.WordFunctions :=
  ⟨fun a b _ hi _ hj => ⟨matrixBit_matrixMulOr a b hi hj, matrixBit_matrixMulXor a b hi hj⟩,
    fun a => ⟨matrixMulOr_identityMatrix a, identityMatrix_matrixMulOr a⟩,
    fun a p _ hi => extractLsb'_permuteBytes a p hi,
    fun _ _ _ _ _ => ⟨firstField?_eq_some, firstField?_eq_none⟩,
    fun _ => rfl, rfl⟩

/-! ## Bit fields -/

/-- DEP (R220). -/
theorem getLsbD_depositField (a b : Word) (off w : BitVec 6) {i : Nat} (hi : i < 64) :
    (depositField a b off w).getLsbD i =
      if off.toNat ≤ i ∧ i ≤ off.toNat + w.toNat then b.getLsbD (i - off.toNat) else a.getLsbD i := by
  simp only [depositField, BitVec.getLsbD_or, BitVec.getLsbD_and, BitVec.getLsbD_not, BitVec.getLsbD_shiftLeft,
    getLsbD_fieldMask, hi, decide_true, Bool.true_and]
  by_cases hlow : i < off.toNat
  · rw [if_neg (by omega)]
    simp [hlow]
  · by_cases hhigh : i ≤ off.toNat + w.toNat
    · have hfield : i - off.toNat ≤ w.toNat := by omega
      rw [if_pos (by omega)]
      simp [hlow, hfield]
    · have hfield : ¬ i - off.toNat ≤ w.toNat := by omega
      rw [if_neg (by omega)]
      simp [hlow, hfield]

/-- EXTU (R229). -/
theorem getLsbD_pairField (a b : Word) (off w : BitVec 6) {i : Nat} (hi : i < 64) :
    (pairField a b off w).getLsbD i = (decide (i ≤ w.toNat) &&
      if off.toNat + i < 64 then a.getLsbD (off.toNat + i) else b.getLsbD (off.toNat + i - 64)) := by
  simp only [pairField, BitVec.getLsbD_and, BitVec.getLsbD_setWidth, BitVec.getLsbD_ushiftRight, BitVec.getLsbD_append,
    getLsbD_fieldMask, hi, decide_true, Bool.true_and]
  exact Bool.and_comm _ _

/-- EXT (R228): above its bit `w` a field repeats that bit. -/
theorem getLsbD_signField (x : Word) (w : BitVec 6) {i : Nat} (hi : i < 64) :
    (signField x w).getLsbD i = x.getLsbD (min i w.toNat) := by
  have hw := w.isLt
  rw [signField, BitVec.getLsbD_sshiftRight, decide_eq_false (by omega), Bool.not_false, Bool.true_and]
  split
  · rename_i h
    rw [BitVec.getLsbD_shiftLeft, Nat.min_eq_left (by omega), Nat.add_sub_cancel_left]
    simp [h]
  · rw [BitVec.msb_eq_getLsbD_last, BitVec.getLsbD_shiftLeft, Nat.min_eq_right (by omega),
      show 64 - 1 - (63 - w.toNat) = w.toNat by omega]
    simp

/-- The field that FFO searches (R230). -/
theorem getLsbD_lowField (a : Word) (off w : BitVec 6) (j : Nat) :
    ((a >>> off.toNat) &&& fieldMask w).getLsbD j = true ↔ a.getLsbD (off.toNat + j) = true ∧ j ≤ w.toNat := by
  rw [BitVec.getLsbD_and, BitVec.getLsbD_ushiftRight, getLsbD_fieldMask, Bool.and_eq_true, decide_eq_true_iff]

theorem getLsbD_lowField_zero {a : Word} {off w : BitVec 6} {j : Nat}
    (h : j ≤ w.toNat → a.getLsbD (off.toNat + j) = false) : ((a >>> off.toNat) &&& fieldMask w).getLsbD j = false := by
  rw [Bool.eq_false_iff, ne_eq, getLsbD_lowField]
  exact fun ⟨hone, hjw⟩ => Bool.false_ne_true ((h hjw).symm.trans hone)

theorem highestBit?_eq_some {n k : Nat} {x : BitVec n} (hk : k < n) (hone : x.getLsbD k = true)
    (hzero : ∀ j, k < j → x.getLsbD j = false) : highestBit? x = some k := by
  have hfirst : (List.range n).find? (fun i => x.getLsbD (n - 1 - i)) = some (n - 1 - k) := by
    rw [List.find?_range_eq_some]
    refine ⟨?_, List.mem_range.2 (by omega), fun j hj => ?_⟩
    · rwa [show n - 1 - (n - 1 - k) = k by omega]
    · rw [hzero _ (by omega), Bool.not_false]
  rw [highestBit?, hfirst, Option.map_some, show n - 1 - (n - 1 - k) = k by omega]

theorem highestBit?_eq_none {n : Nat} {x : BitVec n} (hzero : ∀ j, x.getLsbD j = false) : highestBit? x = none := by
  rw [highestBit?, List.find?_eq_none.2 fun i _ => by simp [hzero], Option.map_none]

/-- FFO finds the highest one of the field (R230). -/
theorem findFirstOne_highest {a : Word} {off w : BitVec 6} {k : Nat} (hk : k ≤ w.toNat)
    (hone : a.getLsbD (off.toNat + k) = true)
    (hzero : ∀ j, k < j → j ≤ w.toNat → a.getLsbD (off.toNat + j) = false) : findFirstOne a off w = BitVec.ofNat 64 k := by
  have hw := w.isLt
  rw [findFirstOne, highestBit?_eq_some (by omega) ((getLsbD_lowField a off w k).2 ⟨hone, hk⟩)
    fun j hj => getLsbD_lowField_zero (hzero j hj), indexOrMinusOne]

/-- FFO of a field without a one (R230). -/
theorem findFirstOne_none {a : Word} {off w : BitVec 6} (hzero : ∀ j ≤ w.toNat, a.getLsbD (off.toNat + j) = false) :
    findFirstOne a off w = -1#64 := by
  rw [findFirstOne, highestBit?_eq_none fun j => getLsbD_lowField_zero (hzero j), indexOrMinusOne]

/-! ## Colours -/

/-- The weighted mean of two bytes is a byte (R400). -/
theorem toNat_blendComponent (a b alpha : BitVec 8) :
    (blendComponent a b alpha).toNat = (a.toNat * alpha.toNat + b.toNat * (255 - alpha.toNat)) / 256 := by
  have hweights : alpha.toNat + (255 - alpha.toNat) = 255 := by have := alpha.isLt; omega
  have hle : a.toNat * alpha.toNat + b.toNat * (255 - alpha.toNat) ≤ 255 * 255 := by
    calc a.toNat * alpha.toNat + b.toNat * (255 - alpha.toNat)
        ≤ 255 * alpha.toNat + 255 * (255 - alpha.toNat) :=
          Nat.add_le_add (Nat.mul_le_mul_right _ (Nat.le_of_lt_succ a.isLt))
            (Nat.mul_le_mul_right _ (Nat.le_of_lt_succ b.isLt))
      _ = 255 * 255 := by rw [← Nat.mul_add, hweights]
  rw [blendComponent, BitVec.toNat_ofNat, Nat.mod_eq_of_lt (by omega)]

section Pixel

variable (p3 p2 p1 p0 : BitVec 8)

/-- A pixel of four bytes as a number. -/
theorem toNat_pixel : ((p3 ++ p2 ++ p1 ++ p0 : BitVec 32).setWidth 64).toNat =
    p3.toNat * 2 ^ 24 + p2.toNat * 2 ^ 16 + p1.toNat * 2 ^ 8 + p0.toNat := by
  have h3 := p3.isLt
  have h2 := p2.isLt
  have h1 := p1.isLt
  have h0 := p0.isLt
  rw [BitVec.toNat_setWidth, toNat_append_mul, toNat_append_mul, toNat_append_mul]
  omega

/-- The bytes of a pixel of four bytes, and the upper half of its word. -/
theorem extractLsb'_pixel : let x : Word := (p3 ++ p2 ++ p1 ++ p0 : BitVec 32).setWidth 64
    x.extractLsb' 0 8 = p0 ∧ x.extractLsb' 8 8 = p1 ∧ x.extractLsb' 16 8 = p2 ∧ x.extractLsb' 24 8 = p3 ∧
      x.extractLsb' 32 32 = 0#32 := by
  have h3 := p3.isLt
  have h2 := p2.isLt
  have h1 := p1.isLt
  have h0 := p0.isLt
  refine ⟨?_, ?_, ?_, ?_, ?_⟩ <;> apply BitVec.eq_of_toNat_eq <;>
    rw [BitVec.extractLsb'_toNat, toNat_pixel, Nat.shiftRight_eq_div_pow]
  · omega
  · omega
  · omega
  · omega
  · rw [BitVec.toNat_ofNat]
    omega

end Pixel

/-- A colour byte of BLEND (R400). -/
theorem extractLsb'_blendPixel (a b c : Word) : ∀ i < 3,
    (blendPixel a b c).extractLsb' (8 * i) 8 =
      blendComponent (a.extractLsb' (8 * i) 8) (b.extractLsb' (8 * i) 8) (c.extractLsb' 0 8) := by
  obtain ⟨hblue, hgreen, hred, -, -⟩ := extractLsb'_pixel (a.extractLsb' 24 8)
    (blendComponent (a.extractLsb' 16 8) (b.extractLsb' 16 8) (c.extractLsb' 0 8))
    (blendComponent (a.extractLsb' 8 8) (b.extractLsb' 8 8) (c.extractLsb' 0 8))
    (blendComponent (a.extractLsb' 0 8) (b.extractLsb' 0 8) (c.extractLsb' 0 8))
  intro i hi
  match i with
  | 0 => exact hblue
  | 1 => exact hgreen
  | 2 => exact hred

/-- Settles O30: fields bit by bit, colours byte by byte. -/
theorem fieldFunctions : Obligations.FieldFunctions := by
  refine ⟨fun a b off w i hi => ⟨getLsbD_depositField a b off w hi, getLsbD_pairField a b off w hi⟩,
    fun x w i hi => getLsbD_signField x w hi, fun a off w k hk hone hzero => findFirstOne_highest hk hone hzero,
    fun a off w hzero => findFirstOne_none hzero, fun a b c => ⟨fun i hi => ?_, ?_⟩⟩
  · rw [extractLsb'_blendPixel a b c i hi, toNat_blendComponent,
      show (c.extractLsb' 0 8).toNat = c.toNat % 256 from toNat_low c 8]
  · exact (extractLsb'_pixel _ _ _ _).2.2.2

end Sys2Proof.Machine

/-! The integer instructions of one source, of two, and of a third and fourth from a modifier (O21, O23, O24, O25): each
format's rule, with the value of the instruction's own formula by the laws of words. The equation that `exec` runs the format
is left to `by rfl`, which waits for the formula: with the formula unknown, unfolding `exec` is slow. -/

namespace Sys2Proof.Machine

/-! ## One source -/

theorem zext_low (n : Nat) (a : Word) : zext (a.extractLsb' 0 n) = BitVec.ofNat 64 (a.toNat % 2 ^ n) := by
  rw [zext_ofNat, toNat_low]

theorem sext_low (n : Nat) (a : Word) : sext (a.extractLsb' 0 n) = BitVec.ofInt 64 (a.setWidth n).toInt := by
  rw [sext_ofInt, extractLsb'_zero_eq]

/-- Negative words, as ABS, NABS and SIGN ask for them. -/
theorem slt_zero_iff (a : Word) : a.slt 0#64 = true ↔ a.toInt < 0 := slt_iff_toInt a 0#64

/-- Settles O21: R1 format throughout. -/
theorem unaryInteger : Obligations.UnaryInteger :=
  ⟨r1Op_form .abs _ (fun a => if a.slt 0#64 then -a else a) (fun _ _ => by rfl) fun a => by simp only [slt_zero_iff],
    r1Op_form .nabs _ (fun a => if a.slt 0#64 then a else -a) (fun _ _ => by rfl) fun a => by simp only [slt_zero_iff],
    r1Op_form .neg _ (fun a => 0#64 - a) (fun _ _ => by rfl) fun a => sub_ofInt_toInt 0#64 a,
    r1Op_form .com _ _ (fun _ _ => by rfl) fun _ => rfl,
    r1Op_form .notL _ (fun a => boolWord (a == 0#64)) (fun _ _ => by rfl) fun _ => boolWord_truth _ _ beq_iff_eq,
    r1Op_form .cntlz _ (fun a => BitVec.ofNat 64 (leadingZeros a)) (fun _ _ => by rfl)
      fun a => congrArg (BitVec.ofNat 64) (leadingZeros_log2 a),
    r1Op_form .cntlo _ (fun a => BitVec.ofNat 64 (leadingZeros (~~~a))) (fun _ _ => by rfl)
      fun a => congrArg (BitVec.ofNat 64) (leadingZeros_log2 (~~~a)),
    r1Op_form .cntpop _ (fun a => BitVec.ofNat 64 (popCount a)) (fun _ _ => by rfl)
      fun a => congrArg (BitVec.ofNat 64) (popCount_card a),
    r1Op_form .sqrt _ _ (fun _ _ => by rfl) isqrt_eq,
    r1Op_form .zxb _ _ (fun _ _ => by rfl) (zext_low 8),
    r1Op_form .zxw _ _ (fun _ _ => by rfl) (zext_low 16),
    r1Op_form .zxt _ _ (fun _ _ => by rfl) (zext_low 32),
    r1Op_form .sxb _ _ (fun _ _ => by rfl) (sext_low 8),
    r1Op_form .sxw _ _ (fun _ _ => by rfl) (sext_low 16),
    r1Op_form .sxt _ _ (fun _ _ => by rfl) (sext_low 32)⟩

/-! ## Two sources -/

/-- Settles O23: R2 format, and SLLI and SRLI with a count. -/
theorem binaryLogicAndShift : Obligations.BinaryLogicAndShift :=
  ⟨r2Op_form .andR _ _ _ (fun _ _ => by rfl) fun _ _ => rfl,
    r2Op_form .nand _ _ _ (fun _ _ => by rfl) fun _ _ => rfl,
    r2Op_form .nor _ _ _ (fun _ _ => by rfl) fun _ _ => rfl,
    r2Op_form .xnor _ _ _ (fun _ _ => by rfl) fun _ _ => rfl,
    r2Op_form .sll _ _ (fun a b => a <<< (b.extractLsb' 0 6).toNat) (fun _ _ => by rfl)
      fun a b => by rw [shiftLeft_ofNat, toNat_shiftCount],
    r2Op_form .srl _ _ (fun a b => a >>> (b.extractLsb' 0 6).toNat) (fun _ _ => by rfl)
      fun a b => by rw [ushiftRight_ofNat, toNat_shiftCount],
    shiftOp_form .slli _ (fun a n => a <<< n.toNat) (fun _ _ => by rfl) fun a n => shiftLeft_ofNat a n.toNat,
    shiftOp_form .srli _ (fun a n => a >>> n.toNat) (fun _ _ => by rfl) fun a n => ushiftRight_ofNat a n.toNat,
    r2Op_form .bmm _ _ _ (fun _ _ => by rfl) fun _ _ => rfl,
    r2Op_form .morB _ _ _ (fun _ _ => by rfl) fun _ _ => rfl,
    r2Op_form .mxorB _ _ _ (fun _ _ => by rfl) fun _ _ => rfl,
    r2Op_form .permR _ _ _ (fun _ _ => by rfl) fun _ _ => rfl,
    r2Op_form .wydndxR _ _ (fun a b => indexOrMinusOne (firstField? 16 4 a (b.extractLsb' 0 16))) (fun _ _ => by rfl)
      fun _ b => by rw [extractLsb'_zero_eq b],
    r2Op_form .u21ndxR _ _ (fun a b => indexOrMinusOne (firstField? 21 3 a (b.extractLsb' 0 21))) (fun _ _ => by rfl)
      fun _ b => by rw [extractLsb'_zero_eq b]⟩

/-- Settles O24: R2 format, and SIGN without a second source. -/
theorem binaryCompare : Obligations.BinaryCompare :=
  have signedLess (a b : Word) : boolWord (a.slt b) = truth (a.toInt < b.toInt) := boolWord_truth _ _ (slt_iff_toInt a b)
  have unsignedLess (a b : Word) : boolWord (a.ult b) = truth (a.toNat < b.toNat) := boolWord_truth _ _ (ult_iff_toNat a b)
  have signedGreater (a b : Word) : boolWord (b.sle a) = truth (b.toInt ≤ a.toInt) :=
    boolWord_truth _ _ (sle_iff_toInt b a)
  have unsignedGreater (a b : Word) : boolWord (b.ule a) = truth (b.toNat ≤ a.toNat) :=
    boolWord_truth _ _ (ule_iff_toNat b a)
  ⟨r2Op_form .cmp _ _ _ (fun _ _ => by rfl) compareSigned_toInt,
    r2Op_form .seqR _ _ (fun a b => boolWord (a == b)) (fun _ _ => by rfl) fun _ _ => boolWord_truth _ _ beq_iff_eq,
    r2Op_form .sneR _ _ (fun a b => boolWord (a != b)) (fun _ _ => by rfl) fun _ _ => boolWord_truth _ _ bne_iff_ne,
    r2Op_form .sltR _ _ _ (fun _ _ => by rfl) signedLess,
    r2Op_form .sltuR _ _ _ (fun _ _ => by rfl) unsignedLess,
    r2Op_form .sge _ _ _ (fun _ _ => by rfl) signedGreater,
    r2Op_form .sgeu _ _ _ (fun _ _ => by rfl) unsignedGreater,
    r2Op_form .sgtR _ _ _ (fun _ _ => by rfl) signedLess,
    r2Op_form .sgtuR _ _ _ (fun _ _ => by rfl) unsignedLess,
    r2Op_form .sle _ _ _ (fun _ _ => by rfl) signedGreater,
    r2Op_form .sleu _ _ _ (fun _ _ => by rfl) unsignedGreater,
    singleForm_of_elementOp .sign _ (fun a => compareSigned a 0#64) (fun _ _ => by rfl) fun a => compareSigned_toInt a 0#64⟩

/-! ## A third and a fourth source -/

/-- PTRDIF (R265). -/
theorem distance_shift (a b c : Word) :
    distance a b >>> (c.extractLsb' 0 5).toNat =
      BitVec.ofNat 64 ((a.toInt - b.toInt).natAbs / 2 ^ (c.toNat % 32)) := by
  have hfits : (a.toInt - b.toInt).natAbs < 2 ^ 64 := by
    have := a.toInt_lt
    have := a.le_toInt
    have := b.toInt_lt
    have := b.le_toInt
    omega
  rw [ushiftRight_ofNat, distance_eq, BitVec.toNat_ofNat, Nat.mod_eq_of_lt hfits,
    show (c.extractLsb' 0 5).toNat = c.toNat % 32 from toNat_low c 5]

/-- Settles O25: R3 and R4 format, and SLLPI and FFO with their own sources. -/
theorem threeAndFourSources : Obligations.ThreeAndFourSources := by
  refine ⟨r3Op_form .orR _ _ _ _ (fun _ _ => by rfl) fun _ _ _ => rfl,
    r3Op_form .xorR _ _ _ _ (fun _ _ => by rfl) fun _ _ _ => rfl,
    r3Op_form .eorR _ _ _ _ (fun _ _ => by rfl) fun _ _ _ => rfl,
    r3Op_form .mux _ _ _ _ (fun _ _ => by rfl) fun _ _ _ => rfl,
    r3Op_form .ptrdif _ _ _ _ (fun _ _ => by rfl) distance_shift,
    r3Op_form .sllp _ _ _ (fun a b c => shiftPairLeft a c (b.extractLsb' 0 6)) (fun _ _ => by rfl)
      fun a b c => by rw [shiftPairLeft_ofNat, toNat_shiftCount],
    fun f s hs => ?_,
    r3Op_form .blend _ _ _ _ (fun _ _ => by rfl) fun _ _ _ => rfl,
    r4Op_form .dep _ _ _ (fun a b c d => depositField a b (c.extractLsb' 0 6) (d.extractLsb' 0 6)) (fun _ _ => by rfl)
      fun _ _ _ _ => by simp only [extractLsb'_zero_eq],
    r4Op_form .ext _ _ _
      (fun a b c d => signField (pairField a b (c.extractLsb' 0 6) (d.extractLsb' 0 6)) (d.extractLsb' 0 6))
      (fun _ _ => by rfl) fun _ _ _ _ => by simp only [extractLsb'_zero_eq],
    r4Op_form .extu _ _ _ (fun a b c d => pairField a b (c.extractLsb' 0 6) (d.extractLsb' 0 6)) (fun _ _ => by rfl)
      fun _ _ _ _ => by simp only [extractLsb'_zero_eq],
    r3Op_form .sra _ _ _ (fun a b c => signField (pairField a b (c.extractLsb' 0 6) 63#6) 63#6) (fun _ _ => by rfl)
      fun a b c => by rw [signField_full, pairField_full, toNat_shiftCount],
    r3Op_form .srlp _ _ _ (fun a b c => pairField a b (c.extractLsb' 0 6) 63#6) (fun _ _ => by rfl)
      fun a b c => by rw [pairField_full, toNat_shiftCount],
    fun f s hs => ?_⟩
  · rw [show exec (.sllpi f) s = execSllpi f s from rfl, execSllpi, withMods_fit _ _ _ hs]
    exact elementwise_congr (fun e => shiftPairLeft_ofNat _ _ _) (elementOp_elementwise ..)
  · rw [show exec (.ffo f) s = execFfo f s from rfl, execFfo, withMods_fit _ _ _ hs]
    exact elementwise_congr (fun e => by simp only [extractLsb'_zero_eq]) (elementOp_elementwise ..)

end Sys2Proof.Machine

/-! The float instructions (O31, O32) and the order of doubles (O33): the sign bit by arithmetic modulo its weight, the
order by the rank of a double among the integers. -/

namespace Sys2Proof.Machine

/-! ## The sign bit -/

/-- FABS (R336): without its sign bit a word is its remainder by that bit's weight. -/
theorem and_clearSign (a : Word) : a &&& 0x7FFFFFFFFFFFFFFF#64 = BitVec.ofNat 64 (a.toNat % 2 ^ 63) := by
  apply BitVec.eq_of_toNat_eq
  have hmask : (0x7FFFFFFFFFFFFFFF#64 : Word).toNat = 2 ^ 63 - 1 := rfl
  rw [BitVec.toNat_and, hmask, Nat.and_two_pow_sub_one_eq_mod, BitVec.toNat_ofNat,
    Nat.mod_eq_of_lt (a := a.toNat % 2 ^ 63) (by omega)]

/-- The sign bit alone. -/
theorem getLsbD_signBit (i : Nat) : (0x8000000000000000#64 : Word).getLsbD i = decide (i = 63) := by
  rw [show (0x8000000000000000#64 : Word) = BitVec.twoPow 64 63 by decide, BitVec.getLsbD_twoPow]
  simp [eq_comm]

/-- The weight of the sign bit added: the sign bit changes, the bits below it stay. -/
theorem testBit_add_signBit {i : Nat} (hi : i < 64) (n : Nat) :
    (n + 2 ^ 63).testBit i = (n.testBit i ^^ decide (i = 63)) := by
  rw [Nat.add_comm]
  by_cases htop : i = 63
  · rw [htop, Nat.testBit_two_pow_add_eq, decide_eq_true rfl, Bool.xor_true]
  · rw [Nat.testBit_two_pow_add_gt (by omega), decide_eq_false htop, Bool.xor_false]

/-- FNEG (R339). -/
theorem xor_signBit (a : Word) : a ^^^ 0x8000000000000000#64 = BitVec.ofNat 64 (a.toNat + 2 ^ 63) := by
  apply BitVec.eq_of_getLsbD_eq
  intro i hi
  rw [BitVec.getLsbD_xor, getLsbD_signBit, BitVec.getLsbD_ofNat, testBit_add_signBit hi, decide_eq_true hi, Bool.true_and,
    BitVec.testBit_toNat]

/-- FNABS (R337): the weight is added to a word whose sign bit is cleared. -/
theorem or_signBit (a : Word) : a ||| 0x8000000000000000#64 = BitVec.ofNat 64 (a.toNat % 2 ^ 63 + 2 ^ 63) := by
  apply BitVec.eq_of_getLsbD_eq
  intro i hi
  rw [BitVec.getLsbD_or, getLsbD_signBit, BitVec.getLsbD_ofNat, testBit_add_signBit hi, Nat.testBit_mod_two_pow,
    decide_eq_true hi, Bool.true_and, BitVec.testBit_toNat]
  by_cases htop : i = 63
  · simp [htop]
  · have hlow : i < 63 := by omega
    simp [htop, hlow]

/-- Settles O31: R1 and R2 format, and SIGN without a second source. -/
theorem floatSignAndCompare : Obligations.FloatSignAndCompare :=
  have equal (a b : Word) : boolWord (fpCompare a b == .eq) = truth (fpCompare a b = .eq) :=
    boolWord_truth _ _ beq_iff_eq
  have less (a b : Word) : boolWord (fpCompare a b == .lt) = truth (fpCompare a b = .lt) :=
    boolWord_truth _ _ beq_iff_eq
  have lessOrEqual (a b : Word) : boolWord (fpCompare a b == .lt || fpCompare a b == .eq) =
      truth (fpCompare a b = .lt ∨ fpCompare a b = .eq) :=
    boolWord_truth _ _ (by rw [Bool.or_eq_true, beq_iff_eq, beq_iff_eq])
  ⟨r1Op_form .fmov _ _ (fun _ _ => by rfl) fun _ => rfl,
    r1Op_form .fabs _ _ (fun _ _ => by rfl) and_clearSign,
    r1Op_form .dfabs _ _ (fun _ _ => by rfl) and_clearSign,
    r1Op_form .fnabs _ _ (fun _ _ => by rfl) or_signBit,
    r1Op_form .fneg _ _ (fun _ _ => by rfl) xor_signBit,
    r2Op_form .fmin _ _ _ (fun _ _ => by rfl) fun _ _ => rfl,
    r2Op_form .fmax _ _ _ (fun _ _ => by rfl) fun _ _ => rfl,
    r2Op_form .fcmp _ _ _ (fun _ _ => by rfl) fun _ _ => rfl,
    r2Op_form .fcmpb _ _ _ (fun _ _ => by rfl) fun _ _ => rfl,
    r2Op_form .fseq _ _ _ (fun _ _ => by rfl) equal,
    r2Op_form .fsne _ _ (fun a b => boolWord (fpCompare a b != .eq)) (fun _ _ => by rfl)
      fun _ _ => boolWord_truth _ _ bne_iff_ne,
    r2Op_form .fslt _ _ _ (fun _ _ => by rfl) less,
    r2Op_form .fsgt _ _ _ (fun _ _ => by rfl) less,
    r2Op_form .fsle _ _ _ (fun _ _ => by rfl) lessOrEqual,
    r2Op_form .fsge _ _ _ (fun _ _ => by rfl) lessOrEqual,
    singleForm_of_elementOp .signF _ (fun a => fpCompareWord a 0#64) (fun _ _ => by rfl) fun _ => rfl⟩

/-! ## The oracle's instructions: the formula reads the rounding mode of the state it runs in -/

section Rounding

variable (s : State) (hs : s.mods.fit .plain = true)

include hs

theorem r1Op_elementwise (g : Word → Word) (f : R1F) :
    elementwise s f.v f.tt f.ta f.rt (some (f.m3, f.z)) (fun e => g (s.srcA f.ta f.ra e)) (r1Op g f s) := by
  rw [r1Op, withMods_fit _ _ _ hs]
  exact elementOp_elementwise ..

theorem r2Op_elementwise (k : ConstKind) (g : Word → Word → Word) (f : R2F) :
    elementwise s f.v f.tt (f.ta || isVec f.tb) f.rt s.mods.maskSel
      (fun e => g (s.srcA f.ta f.ra e) (s.srcSpec k f.tb f.rb e)) (r2Op k g f s) := by
  rw [r2Op, withMods_fit _ _ _ hs]
  exact elementOp_elementwise ..

theorem r4Op_elementwise (kb kc : ConstKind) (g : Word → Word → Word → Word → Word) (f : R2F) :
    elementwise s f.v f.tt (f.ta || isVec f.tb || isVec s.mods.rc.1 || isVec s.mods.rd.1) f.rt s.mods.maskSel
      (fun e => g (s.srcA f.ta f.ra e) (s.srcSpec kb f.tb f.rb e) (s.opC kc e) (s.opD kc e)) (r4Op kb kc g f s) := by
  rw [r4Op, withMods_fit _ _ _ hs]
  exact elementOp_elementwise ..

end Rounding

/-- Settles O32: each is its format's operation on the oracle's function under the rounding mode. -/
theorem floatArithmetic : Obligations.FloatArithmetic :=
  ⟨fun f s hs => r1Op_elementwise s hs (Config.fpSqrt s.mods.rounding) f,
    fun f s hs => ⟨r2Op_elementwise s hs .float (Config.fpAdd s.mods.rounding) f,
      r2Op_elementwise s hs .float (Config.fpSub s.mods.rounding) f,
      r2Op_elementwise s hs .float (Config.fpMul s.mods.rounding) f,
      r2Op_elementwise s hs .float (Config.fpDiv s.mods.rounding) f,
      r4Op_elementwise s hs .float .float (Config.fpFdp s.mods.rounding) f⟩⟩

/-! ## The order of doubles: its fields as numbers -/

theorem fpIsNaN_iff (a : Word) :
    fpIsNaN a = true ↔ a.toNat / 2 ^ 52 % 2048 = 2047 ∧ a.toNat % 2 ^ 52 ≠ 0 := by
  rw [fpIsNaN, Bool.and_eq_true, beq_iff_eq, bne_iff_ne, ne_eq, ← BitVec.toNat_inj, ← BitVec.toNat_inj,
    BitVec.extractLsb'_toNat, Nat.shiftRight_eq_div_pow, toNat_low]
  rfl

theorem fpMagnitude_mod (a : Word) : fpMagnitude a = a.toNat % 2 ^ 63 := toNat_low a 63

/-- A double without a sign ranks as the number its bits are. -/
theorem fpRank_positive {a : Word} (h : a.msb = false) : a.toNat < 2 ^ 63 ∧ fpRank a = a.toNat := by
  have hlt : a.toNat < 2 ^ 63 := BitVec.toNat_lt_of_msb_false h
  refine ⟨hlt, ?_⟩
  rw [fpRank, h, if_neg Bool.false_ne_true, fpMagnitude_mod, Nat.mod_eq_of_lt hlt]

/-- A double with a sign ranks below zero by what its bits exceed the sign bit. -/
theorem fpRank_negative {a : Word} (h : a.msb = true) :
    2 ^ 63 ≤ a.toNat ∧ a.toNat < 2 ^ 64 ∧ fpRank a = 2 ^ 63 - (a.toNat : Int) := by
  have hge : 2 ^ 63 ≤ a.toNat := BitVec.toNat_ge_of_msb_true h
  have hlt : a.toNat < 2 ^ 64 := a.isLt
  refine ⟨hge, hlt, ?_⟩
  rw [fpRank, h, if_pos rfl, fpMagnitude_mod]
  omega

/-- Two doubles have one rank where they are the same or both zeros. -/
theorem fpRank_eq_iff (a b : Word) :
    fpRank a = fpRank b ↔ a = b ∨ a.toNat % 2 ^ 63 = 0 ∧ b.toNat % 2 ^ 63 = 0 := by
  rw [← BitVec.toNat_inj]
  cases ha : a.msb <;> cases hb : b.msb
  case false.false =>
    have := fpRank_positive ha
    have := fpRank_positive hb
    omega
  case false.true =>
    have := fpRank_positive ha
    have := fpRank_negative hb
    omega
  case true.false =>
    have := fpRank_negative ha
    have := fpRank_positive hb
    omega
  case true.true =>
    have := fpRank_negative ha
    have := fpRank_negative hb
    omega

/-! ## The order of doubles: its outcomes by rank -/

theorem fpCompare_eq_unordered_iff (a b : Word) :
    fpCompare a b = .unordered ↔ fpIsNaN a = true ∨ fpIsNaN b = true := by
  rw [fpCompare, ← Bool.or_eq_true]
  split
  case isTrue h => simp [h]
  case isFalse h =>
    split
    · simp [h]
    · split <;> simp [h]

/-- Two numbers compare as their ranks do. -/
theorem fpCompare_numbers {a b : Word} (ha : fpIsNaN a = false) (hb : fpIsNaN b = false) :
    fpCompare a b = if fpRank a < fpRank b then .lt else if fpRank a = fpRank b then .eq else .gt := by
  rw [fpCompare, ha, hb, Bool.or_false, if_neg Bool.false_ne_true]

section Numbers

variable {a b : Word} (ha : fpIsNaN a = false) (hb : fpIsNaN b = false)

include ha hb

theorem fpCompare_numbers_eq_lt : fpCompare a b = .lt ↔ fpRank a < fpRank b := by
  rw [fpCompare_numbers ha hb]
  split
  case isTrue hlt => simp [hlt]
  case isFalse hge => split <;> simp [hge]

theorem fpCompare_numbers_eq_eq : fpCompare a b = .eq ↔ fpRank a = fpRank b := by
  rw [fpCompare_numbers ha hb]
  split
  case isTrue hlt => simp [hlt.ne]
  case isFalse => split <;> simp [*]

theorem fpCompare_numbers_eq_gt : fpCompare a b = .gt ↔ fpRank b < fpRank a := by
  rw [fpCompare_numbers ha hb]
  split
  case isTrue hlt => simp [hlt.le]
  case isFalse hge =>
    split
    case isTrue heq => simp [heq]
    case isFalse hne => simp [lt_of_le_of_ne (not_lt.1 hge) (Ne.symm hne)]

end Numbers

/-- Either two doubles are numbers, or they are unordered both ways. -/
theorem numbers_or_unordered (a b : Word) : fpIsNaN a = false ∧ fpIsNaN b = false ∨
    fpCompare a b = .unordered ∧ fpCompare b a = .unordered := by
  rw [fpCompare_eq_unordered_iff, fpCompare_eq_unordered_iff]
  cases fpIsNaN a <;> cases fpIsNaN b <;> simp

theorem fpCompare_lt_iff_gt (a b : Word) : fpCompare a b = .lt ↔ fpCompare b a = .gt := by
  obtain ⟨ha, hb⟩ | ⟨hab, hba⟩ := numbers_or_unordered a b
  · rw [fpCompare_numbers_eq_lt ha hb, fpCompare_numbers_eq_gt hb ha]
  · simp [hab, hba]

theorem fpCompare_eq_comm (a b : Word) : fpCompare a b = .eq ↔ fpCompare b a = .eq := by
  obtain ⟨ha, hb⟩ | ⟨hab, hba⟩ := numbers_or_unordered a b
  · rw [fpCompare_numbers_eq_eq ha hb, fpCompare_numbers_eq_eq hb ha, eq_comm]
  · simp [hab, hba]

/-- Less is less in rank, of two numbers. -/
theorem numbers_of_fpCompare_lt {a b : Word} (h : fpCompare a b = .lt) :
    fpIsNaN a = false ∧ fpIsNaN b = false ∧ fpRank a < fpRank b := by
  obtain ⟨ha, hb⟩ | ⟨hab, -⟩ := numbers_or_unordered a b
  · exact ⟨ha, hb, (fpCompare_numbers_eq_lt ha hb).1 h⟩
  · rw [hab] at h
    cases h

theorem fpCompare_lt_trans {a b c : Word} (hab : fpCompare a b = .lt) (hbc : fpCompare b c = .lt) :
    fpCompare a c = .lt := by
  obtain ⟨ha, -, hltab⟩ := numbers_of_fpCompare_lt hab
  obtain ⟨-, hc, hltbc⟩ := numbers_of_fpCompare_lt hbc
  exact (fpCompare_numbers_eq_lt ha hc).2 (Int.lt_trans hltab hltbc)

/-! ## The results of FCMP and FCMPB -/

/-- FCMPB (R351), bit by bit. -/
theorem fpCompareBit_iff (a b : Word) (i : Nat) : fpCompareBit a b i = true ↔
    (i = 0 ∧ fpCompare a b = .eq) ∨ ((i = 1 ∨ i = 63) ∧ fpCompare a b = .lt) ∨
    (i = 2 ∧ (fpCompare a b = .lt ∨ fpCompare a b = .eq)) ∨
    (i = 3 ∧ fpCompare a b ≠ .unordered ∧ a.toNat % 2 ^ 63 < b.toNat % 2 ^ 63) ∨
    (i = 4 ∧ fpCompare a b = .unordered) ∨ (i = 8 ∧ fpCompare a b ≠ .eq) ∨
    (i = 9 ∧ (fpCompare a b = .gt ∨ fpCompare a b = .eq)) ∨ (i = 10 ∧ fpCompare a b = .gt) ∨
    (i = 11 ∧ fpCompare a b ≠ .unordered ∧ b.toNat % 2 ^ 63 ≤ a.toNat % 2 ^ 63) ∨
    (i = 12 ∧ fpCompare a b ≠ .unordered) := by
  rw [fpCompareBit, fpMagnitude_mod, fpMagnitude_mod]
  split
  next hun => simp [hun]
  next => split <;> simp_all

/-- FCMP (R350). -/
theorem fpCompareWord_eq (a b : Word) : fpCompareWord a b =
    if fpCompare a b = .lt then 0xBFF0000000000000#64 else if fpCompare a b = .eq then 0#64
    else if fpCompare a b = .gt then 0x3FF0000000000000#64 else 0x4000000000000000#64 := by
  rw [fpCompareWord]
  cases fpCompare a b <;> rfl

/-- Settles O33: the order is that of ranks, and the results follow its outcome. -/
theorem floatOrder : Obligations.FloatOrder := by
  unfold Obligations.FloatOrder
  intro nan
  have hnan (a : Word) : fpIsNaN a = true ↔ nan a := fpIsNaN_iff a
  have hnumber {a : Word} (h : ¬ nan a) : fpIsNaN a = false := by rwa [← hnan, Bool.not_eq_true] at h
  refine ⟨fun a b => ⟨?_, fpCompare_lt_iff_gt a b, fpCompare_eq_comm a b⟩, fun _ _ _ => fpCompare_lt_trans,
    fun a b ha hb => ?_, fun a b i hi => ?_, fpCompareWord_eq⟩
  · rw [fpCompare_eq_unordered_iff, hnan, hnan]
  · rw [ne_eq, fpCompare_numbers_eq_eq (hnumber ha) (hnumber hb), fpCompare_numbers_eq_lt (hnumber ha) (hnumber hb)]
    refine ⟨fpRank_eq_iff a b, fun hpa hpb => ?_, fun hna hnb => ?_, fun hna hpb => ?_, fun hpa hnb => ?_⟩
    · rw [(fpRank_positive hpa).2, (fpRank_positive hpb).2, Int.ofNat_lt]
    · have ⟨_, _, hranka⟩ := fpRank_negative hna
      have := fpRank_negative hnb
      omega
    · have ⟨_, _, hranka⟩ := fpRank_negative hna
      have := fpRank_positive hpb
      omega
    · have ⟨_, hranka⟩ := fpRank_positive hpa
      have := fpRank_negative hnb
      omega
  · rw [fpCompareBits, getLsbD_bitsOf, decide_eq_true hi, Bool.true_and, fpCompareBit_iff]

end Sys2Proof.Machine

/-! RD_COEFF and WR_COEFF (O34): the table of coefficients by number, then what each instruction answers in its scalar and
its vector form, in the cases that the statement tells apart. -/

namespace Sys2Proof.Machine

/-! ## The table of coefficients -/

theorem coeffMissing_iff (n : Word) : coeffMissing n = true ↔ 12 < n.toNat := decide_eq_true_iff

theorem coeffGet_of_lt (table : Vector Word 13) {n : Word} (h : n.toNat < 13) : coeffGet table n = table[n.toNat] :=
  dif_pos h

theorem coeffPut_of_lt (table : Vector Word 13) {n : Word} (h : n.toNat < 13) (w : Word) :
    coeffPut table n w = table.set n.toNat w := dif_pos h

theorem coeffGet_eq_getD (table : Vector Word 13) (n : Word) : coeffGet table n = (table[n.toNat]?).getD 0#64 := by
  by_cases h : n.toNat < 13
  · rw [coeffGet_of_lt table h, Vector.getElem?_eq_getElem h, Option.getD_some]
  · rw [coeffGet, dif_neg h, Vector.getElem?_eq_none (Nat.not_lt.1 h), Option.getD_none]

theorem coeffPut_eq_setIfInBounds (table : Vector Word 13) (n w : Word) :
    coeffPut table n w = table.setIfInBounds n.toNat w := by
  apply Vector.ext
  intro i hi
  by_cases h : n.toNat < 13
  · rw [coeffPut_of_lt table h, Vector.getElem_set, Vector.getElem_setIfInBounds]
  · rw [coeffPut, dif_neg h, Vector.getElem_setIfInBounds_ne hi (by omega)]

/-- One more element has written its coefficient, or is inactive (R550). -/
theorem State.coeffsAfter_succ (s : State) (sel : MaskSel) (num new : Nat → Word) (e : Nat) :
    s.coeffsAfter sel num new (e + 1) = if s.active sel e = true then
      (s.coeffsAfter sel num new e).setIfInBounds (num e).toNat (new e) else s.coeffsAfter sel num new e := by
  rw [State.coeffsAfter, coeffPut_eq_setIfInBounds]

/-! ## What the instructions answer -/

/-- An active element of Ra numbers no coefficient (R403). -/
def elementMissing (f : R2F) (s : State) : Prop :=
  ∃ e < s.vl.toNat, s.active s.mods.maskSel e = true ∧ 12 < (s.srcA f.ta f.ra e).toNat

theorem any_coeffMissing_iff (f : R2F) (s : State) :
    (s.actives s.mods.maskSel).any (fun e => coeffMissing (s.srcA f.ta f.ra e)) = true ↔ elementMissing f s := by
  simp [State.actives, State.vlen, elementMissing, coeffMissing_iff]

/-- The coefficients when the active elements below `e` have written theirs (R403, R550). -/
def writtenCoeffs (f : R2F) (s : State) (e : Nat) : Vector Word 13 :=
  s.coeffsAfter s.mods.maskSel (s.srcA f.ta f.ra) (s.srcSpec .signed f.tb f.rb) e

section Forms

variable {f : R2F} {s : State}

/-- RD_COEFF under modifiers it takes: a missing number is refused, else it is element-wise. -/
theorem exec_rdCoeff (hs : s.mods.fit .plain = true) : exec (.rdCoeff f) s =
    if f.v then
      if f.tt && (s.actives s.mods.maskSel).any (fun e => coeffMissing (s.srcA f.ta f.ra e)) && !s.vlTooLong then
        .refused .coefficientIndex
      else elementOp f.v f.tt f.rt f.ta s.mods.maskSel (fun e => coeffGet s.coeff (s.srcA f.ta f.ra e)) s
    else if !f.tt && !f.ta && coeffMissing (s.reg f.ra) then .refused .coefficientIndex
    else elementOp f.v f.tt f.rt f.ta s.mods.maskSel (fun _ => coeffGet s.coeff (s.reg f.ra)) s :=
  withMods_fit _ _ _ hs

theorem rdCoeff_missing (hs : s.mods.fit .plain = true) (hv : f.v = false) (ht : f.tt = false) (ha : f.ta = false)
    (hm : 12 < (s.reg f.ra).toNat) : exec (.rdCoeff f) s = .refused .coefficientIndex := by
  rw [exec_rdCoeff hs]
  simp [hv, ht, ha, (coeffMissing_iff _).2 hm]

theorem rdCoeff_elementMissing (hs : s.mods.fit .plain = true) (hv : f.v = true) (ht : f.tt = true)
    (hvl : s.vl.toNat ≤ s.cfg.vlmax) (hm : elementMissing f s) :
    exec (.rdCoeff f) s = .refused .coefficientIndex := by
  have hshort : s.vlTooLong = false := decide_eq_false (Nat.not_lt.2 hvl)
  rw [exec_rdCoeff hs, if_pos hv, (any_coeffMissing_iff f s).2 hm, ht, hshort]
  rfl

/-- RD_COEFF is element-wise unless its form is one that reads numbers and a number is missing. -/
theorem rdCoeff_elementwise (hs : s.mods.fit .plain = true)
    (hscalar : f.v = false → f.tt = false → f.ta = false → (s.reg f.ra).toNat < 13)
    (hvector : f.v = true → f.tt = true → s.vl.toNat ≤ s.cfg.vlmax → ¬ elementMissing f s) :
    elementwise s f.v f.tt f.ta f.rt s.mods.maskSel (fun e => coeffGet s.coeff (s.srcA f.ta f.ra e))
      (exec (.rdCoeff f) s) := by
  rw [exec_rdCoeff hs]
  by_cases hv : f.v = true
  · rw [if_pos hv, if_neg]
    · exact elementOp_elementwise ..
    · simp only [Bool.and_eq_true, any_coeffMissing_iff, Bool.not_eq_true', ← Bool.not_eq_true, vlTooLong_iff, not_lt]
      exact fun ⟨⟨ht, hm⟩, hvl⟩ => hvector hv ht hvl hm
  · rw [Bool.not_eq_true] at hv
    rw [if_neg (by simp [hv]), if_neg]
    · cases ha : f.ta with
      | false => exact elementwise_congr (fun _ => rfl) (elementOp_elementwise ..)
      | true => simpa [elementOp, elementwise, hv] using misuse_raises s
    · simp only [Bool.and_eq_true, coeffMissing_iff, Bool.not_eq_true']
      exact fun ⟨⟨ht, ha⟩, hm⟩ => absurd (hscalar hv ht ha) (by omega)

/-- WR_COEFF under modifiers it takes. -/
theorem exec_wrCoeff (hs : s.mods.fit .plain = true) : exec (.wrCoeff f) s =
    if f.v then
      if !f.tt then misuse s
      else withVl s
        (if (s.actives s.mods.maskSel).any (fun e => coeffMissing (s.srcA f.ta f.ra e)) then .refused .coefficientIndex
        else
          .next ({ s with coeff := writtenCoeffs f s s.vlen }.setElems f.rt s.vlen
            (s.laneValue s.mods.maskSel (fun e => coeffGet (writtenCoeffs f s e) (s.srcA f.ta f.ra e)))).advance)
    else if f.tt || f.ta || isVec f.tb then misuse s
    else if coeffMissing (s.srcA f.ta f.ra 0) then .refused .coefficientIndex
    else
      .next ({ s with coeff := coeffPut s.coeff (s.srcA f.ta f.ra 0) (s.srcSpec .signed f.tb f.rb 0) }.setReg f.rt
        (coeffGet s.coeff (s.srcA f.ta f.ra 0))).advance :=
  withMods_fit _ _ _ hs

/-- A misused type code stands before any missing number (log 13). -/
theorem wrCoeff_misuse (hs : s.mods.fit .plain = true)
    (hbad : f.v = true ∧ f.tt = false ∨ f.v = false ∧ (f.tt = true ∨ f.ta = true ∨ isVec f.tb = true)) :
    nextWith (exec (.wrCoeff f) s) (raisedUnimplemented s) := by
  have hmisuse : exec (.wrCoeff f) s = misuse s := by
    rw [exec_wrCoeff hs]
    rcases hbad with ⟨hv, ht⟩ | ⟨hv, hcodes⟩
    · simp [hv, ht]
    · simp only [hv, Bool.false_eq_true, if_false]
      exact if_pos (by simpa [or_assoc] using hcodes)
  exact hmisuse ▸ misuse_raises s

theorem wrCoeff_scalar (hs : s.mods.fit .plain = true) (hv : f.v = false) (ht : f.tt = false) (ha : f.ta = false)
    (hb : isVec f.tb = false) : exec (.wrCoeff f) s =
      if 12 < (s.reg f.ra).toNat then .refused .coefficientIndex
      else .next ({ s with coeff := coeffPut s.coeff (s.reg f.ra) (s.srcSpec .signed f.tb f.rb 0) }.setReg f.rt
        (coeffGet s.coeff (s.reg f.ra))).advance := by
  rw [exec_wrCoeff hs]
  simp [hv, ht, ha, hb, coeffMissing_iff, State.srcA]

theorem wrCoeff_vectorLength (hs : s.mods.fit .plain = true) (hv : f.v = true) (ht : f.tt = true)
    (hvl : s.cfg.vlmax < s.vl.toNat) : exec (.wrCoeff f) s = .refused .vectorLength := by
  rw [exec_wrCoeff hs, if_pos hv, if_neg (by simp [ht])]
  exact withVl_gt s _ hvl

theorem wrCoeff_elementMissing (hs : s.mods.fit .plain = true) (hv : f.v = true) (ht : f.tt = true)
    (hvl : s.vl.toNat ≤ s.cfg.vlmax) (hm : elementMissing f s) :
    exec (.wrCoeff f) s = .refused .coefficientIndex := by
  rw [exec_wrCoeff hs, if_pos hv, if_neg (by simp [ht]), withVl_le s _ hvl,
    if_pos ((any_coeffMissing_iff f s).2 hm)]

theorem wrCoeff_vector (hs : s.mods.fit .plain = true) (hv : f.v = true) (ht : f.tt = true)
    (hvl : s.vl.toNat ≤ s.cfg.vlmax) (hm : ¬ elementMissing f s) :
    nextWith (exec (.wrCoeff f) s) (wroteElems f.rt
      (masked s s.mods.maskSel (fun e => coeffGet (writtenCoeffs f s e) (s.srcA f.ta f.ra e)))
      { s with coeff := writtenCoeffs f s s.vl.toNat }) := by
  rw [exec_wrCoeff hs, if_pos hv, if_neg (by simp [ht]), withVl_le s _ hvl,
    if_neg (mt (any_coeffMissing_iff f s).1 hm)]
  exact ⟨_, rfl, wroteElems_lanes { s with coeff := writtenCoeffs f s s.vl.toNat } f.rt s.mods.maskSel _⟩

end Forms

/-- Settles O34: RD_COEFF is element-wise where its numbers exist, and WR_COEFF goes through the table that the elements
before have written. -/
theorem coefficients : Obligations.Coefficients := by
  unfold Obligations.Coefficients
  intro f s hs
  refine ⟨fun hv ht ha => ⟨rdCoeff_missing hs hv ht ha, fun h => ⟨?_, fun hb => ?_⟩⟩, fun hv ht ha hb hm => ?_,
    fun hv ht hvl hnum => ?_,
    fun hv ht hvl hm => ⟨rdCoeff_elementMissing hs hv ht hvl hm, wrCoeff_elementMissing hs hv ht hvl hm⟩,
    fun hv ht hvl => ⟨?_, wrCoeff_vectorLength hs hv ht hvl⟩,
    fun hbad => ⟨?_, wrCoeff_misuse hs ?_⟩, fun hv hb => wrCoeff_misuse hs (.inr ⟨hv, .inr (.inr hb)⟩)⟩
  · have hread := rdCoeff_elementwise (f := f) hs (fun _ _ _ => h) (by simp [hv])
    simpa [elementwise, hv, ht, ha, State.srcA, coeffGet_of_lt s.coeff h] using hread
  · rw [wrCoeff_scalar hs hv ht ha hb, if_neg (by omega), coeffGet_of_lt s.coeff h, coeffPut_of_lt s.coeff h]
    exact ⟨_, rfl, wroteReg_setReg ..⟩
  · rw [wrCoeff_scalar hs hv ht ha hb, if_pos hm]
  · have hexist : ¬ elementMissing f s := fun ⟨e, he, hactive, hm⟩ => absurd (hnum e he hactive) (by omega)
    have hread := rdCoeff_elementwise (f := f) hs (by simp [hv]) (fun _ _ _ => hexist)
    have hwrite := wrCoeff_vector hs hv ht hvl hexist
    simp only [coeffGet_eq_getD] at hread hwrite
    refine ⟨?_, writtenCoeffs f s, rfl, fun e _ => State.coeffsAfter_succ .., hwrite⟩
    rwa [elementwise, if_pos hv, if_pos ht, if_neg (Nat.not_lt.2 hvl)] at hread
  · have hread := rdCoeff_elementwise (f := f) hs (by simp [hv]) (fun _ _ hle => absurd hle (Nat.not_le.2 hvl))
    rwa [elementwise, if_pos hv, if_pos ht, if_pos hvl] at hread
  · exact elementwise_misuse (rdCoeff_elementwise hs (fun hv ht ha => by simp [hv, ht, ha] at hbad)
      (fun hv ht => by simp [hv, ht] at hbad)) hbad
  · exact hbad.imp_right fun ⟨hv, hcodes⟩ => ⟨hv, hcodes.imp_right .inl⟩

end Sys2Proof.Machine

/-! STPTR (O37): the addresses of its card bytes in order, its loop as byte stores at these addresses, and what both forms
and the words of Func4 7 answer. -/

namespace Sys2Proof.Machine

/-! ## The card bytes -/

/-- The addresses of the card bytes of `n` rounds of STPTR's loop: `ea >> 8`, `ea >> 16`, ... down to zero (R446). -/
def cardAddresses (n : Nat) (ea : Word) : List Word :=
  ((List.range n).filter (fun k => decide (ea >>> (8 * k) ≠ 0#64))).map (fun k => ea >>> (8 * (k + 1)))

/-- At address zero the loop ends, with no card byte left. -/
theorem cardAddresses_zero (n : Nat) : cardAddresses n 0#64 = [] := by simp [cardAddresses]

/-- A round of the loop shifts the address and goes on from there. -/
theorem cardAddresses_succ (n : Nat) {ea : Word} (h : ea ≠ 0#64) :
    cardAddresses (n + 1) ea = ea >>> 8 :: cardAddresses n (ea >>> 8) := by
  have shift (k : Nat) : ea >>> (8 * (k + 1)) = (ea >>> 8) >>> (8 * k) := by
    rw [← BitVec.shiftRight_add, Nat.mul_succ, Nat.add_comm]
  simp [cardAddresses, List.range_succ_eq_map, List.filter_map, Function.comp_def, h, shift]

/-- Zero bytes for the cards, as (address, value) pairs. -/
def cardStores (n : Nat) (ea : Word) : List (Word × Word) := (cardAddresses n ea).map (fun a => (a, 0#64))

theorem cardStores_zero (n : Nat) : cardStores n 0#64 = [] := by rw [cardStores, cardAddresses_zero, List.map_nil]

theorem cardStores_succ (n : Nat) {ea : Word} (h : ea ≠ 0#64) :
    cardStores (n + 1) ea = (ea >>> 8, 0#64) :: cardStores n (ea >>> 8) := by
  rw [cardStores, cardAddresses_succ n h, List.map_cons, cardStores]

/-- STPTR's loop is the byte stores at its card addresses, in order. -/
theorem State.clearCards_eq_storeMany (n : Nat) (s : State) (ea : Word) :
    s.clearCards ea n = s.storeMany 1 (cardStores n ea) := by
  induction n generalizing s ea with
  | zero => rfl
  | succ n ih =>
    by_cases h : ea = 0#64
    · rw [State.clearCards, if_pos h, h, cardStores_zero, State.storeMany]
    · simp only [State.clearCards, if_neg h, cardStores_succ n h, State.storeMany, ih]

/-- What the statement says of the loop: the byte stores at its card addresses, in order. -/
theorem clearedCards_iff (n : Nat) (ea : Word) (s t : State) :
    clearedCards n ea s t ↔ storedInOrder 1 (cardStores n ea) s t := by
  induction n generalizing s ea with
  | zero => rfl
  | succ n ih =>
    by_cases h : ea = 0#64
    · rw [clearedCards, if_pos h, h, cardStores_zero, storedInOrder]
    · simp only [clearedCards, if_neg h, cardStores_succ n h, storedInOrder, ih]

/-- Card bytes that are all accessible are all cleared, in order. -/
theorem State.clearCards_cleared {n : Nat} {ea : Word} {s : State} (h : ∀ a ∈ cardAddresses n ea, accessible s .write a 1) :
    ∃ t, s.clearCards ea n = .ok t ∧ clearedCards n ea s t := by
  simp only [State.clearCards_eq_storeMany, clearedCards_iff]
  exact State.storeMany_stored (List.forall_mem_map.2 h)

/-- Card bytes that are all cleared were all accessible. -/
theorem State.clearCards_ok {n : Nat} {ea : Word} {s t : State} (h : s.clearCards ea n = .ok t) :
    ∀ a ∈ cardAddresses n ea, accessible s .write a 1 :=
  List.forall_mem_map.1 (State.storeMany_ok (s.clearCards_eq_storeMany n ea ▸ h))

/-- The loop is refused for one of the card bytes. -/
theorem State.clearCards_error {n : Nat} {ea : Word} {s : State} {e : Refusal} (h : s.clearCards ea n = .error e) :
    ∃ a ∈ cardAddresses n ea, blockedBy s .write 1 a e := by
  obtain ⟨p, hp, hb⟩ := State.storeMany_error (s.clearCards_eq_storeMany n ea ▸ h)
  obtain ⟨a, ha, rfl⟩ := List.mem_map.1 hp
  exact ⟨a, ha, hb⟩

/-- The loop changes what a store changes. -/
theorem clearedCards_frame {n : Nat} {ea : Word} {s t : State} (h : clearedCards n ea s t) :
    t = { s with mem := t.mem, stale := t.stale, deviceOut := t.deviceOut } :=
  storedInOrder_frame ((clearedCards_iff ..).1 h)

/-- Without translation a zero byte stored at address 0, if that byte is memory's, reads zero. -/
theorem storedBytes_byteAt_zero {s t : State} (hst : storedBytes 0#64 1 0#64 s t) (hid : s.cfg.translate = .identity)
    (hd : s.isDevice 0 = false) (h : accessible s .write 0#64 1) : t.byteAt 0 = 0#8 := by
  obtain ⟨p, hp⟩ := h.2 0 Nat.one_pos
  cases State.physical_identity hid hp
  exact storedBytes_byteAt hst hid (by decide) Nat.one_pos hp hd

/-- Without translation the loop from an address other than zero, over all of its bytes, clears byte 0 at its end (R446). -/
theorem clearedCards_byteAt_zero {n : Nat} {ea : Word} {s t : State} (h : clearedCards n ea s t)
    (hacc : ∀ a ∈ cardAddresses n ea, accessible s .write a 1) (hid : s.cfg.translate = .identity)
    (hd : s.isDevice 0 = false) (hlt : ea.toNat < 2 ^ (8 * n)) (hne : ea ≠ 0#64) : t.byteAt 0 = 0#8 := by
  induction n generalizing s ea with
  | zero => exact absurd (BitVec.eq_of_toNat_eq (Nat.lt_one_iff.1 hlt)) hne
  | succ n ih =>
    rw [clearedCards, if_neg hne] at h
    obtain ⟨u, hu, ht⟩ := h
    rw [cardAddresses_succ n hne] at hacc
    obtain ⟨first, rest⟩ := List.forall_mem_cons.1 hacc
    by_cases hlast : ea >>> 8 = 0#64
    · rw [hlast] at hu first ht
      rw [clearedCards_iff, cardStores_zero, storedInOrder] at ht
      exact ht ▸ storedBytes_byteAt_zero hu hid hd first
    · have hcfg : u.cfg = s.cfg := by rw [hu.1]
      refine ih ht (fun a ha => storedBytes_accessible hu (rest a ha)) (hcfg ▸ hid) ?_ ?_ hlast
      · rwa [State.isDevice, hcfg]
      · rw [BitVec.toNat_ushiftRight, Nat.shiftRight_eq_div_pow]
        exact Nat.div_lt_of_lt_mul (by rwa [← Nat.pow_add, Nat.add_comm])

/-! ## STPTR after its address -/

/-- STPTR where its accesses are accessible: the octa, then the card bytes, and byte 0 at the end (R446). -/
theorem storePointerAt_next {s : State} {ea : Word} (w : Word) (hocta : accessible s .write ea 8)
    (hcards : ∀ a ∈ cardAddresses 8 ea, accessible s .write a 1) :
    nextWith (storePointerAt ea w s) (fun t => ∃ u v, storedBytes ea 8 w s u ∧ clearedCards 8 ea u v ∧
      t = { v with ip := s.ipNext, mods := Mods.empty } ∧
      (s.cfg.translate = .identity → s.isDevice 0 = false → ea ≠ 0#64 → t.byteAt 0 = 0#8)) := by
  obtain ⟨u, hu, hst⟩ := State.memWrite_stored s ea w 8 hocta
  have hafter : ∀ a ∈ cardAddresses 8 ea, accessible u .write a 1 := fun a ha => storedBytes_accessible hst (hcards a ha)
  obtain ⟨v, hv, hcl⟩ := State.clearCards_cleared hafter
  have hip : v.ipNext = s.ipNext := by
    rw [clearedCards_frame hcl, hst.1]
    rfl
  have hcfg : u.cfg = s.cfg := by rw [hst.1]
  have hzero : s.cfg.translate = .identity → s.isDevice 0 = false → ea ≠ 0#64 → v.byteAt 0 = 0#8 := fun hid hd hne =>
    clearedCards_byteAt_zero hcl hafter (hcfg ▸ hid) (by rwa [State.isDevice, hcfg]) ea.isLt hne
  simp only [storePointerAt, hu, hv]
  exact ⟨_, rfl, u, v, hst, hcl, by rw [← hip]; rfl, hzero⟩

/-- STPTR where one of its accesses is not accessible. -/
theorem storePointerAt_refused {s : State} {ea : Word} (w : Word)
    (h : ¬ accessible s .write ea 8 ∨ ∃ a ∈ cardAddresses 8 ea, ¬ accessible s .write a 1) :
    refusedFor s .write 8 (storePointerAt ea w s) ea ∨
      ∃ a ∈ cardAddresses 8 ea, refusedFor s .write 1 (storePointerAt ea w s) a := by
  unfold storePointerAt
  cases hu : s.memWrite ea 8 w with
  | error e => exact .inl ⟨e, rfl, State.memWrite_error hu⟩
  | ok u =>
    have hst := State.memWrite_storedBytes hu
    dsimp only
    cases hv : u.clearCards ea 8 with
    | error e =>
      obtain ⟨a, ha, hb⟩ := State.clearCards_error hv
      exact .inr ⟨a, ha, e, rfl, storedBytes_blockedBy hst hb⟩
    | ok v =>
      rcases h with hocta | ⟨a, ha, hcard⟩
      · exact absurd (State.memWrite_ok hu) hocta
      · have hafter := State.clearCards_ok hv a ha
        rw [hst.1] at hafter
        exact absurd hafter hcard

/-! ## The instruction's forms -/

/-- A store, displacement form, in each case of its type codes. -/
theorem storeOp_cases (put : Word → Word → State → Out) (f : StF) {s : State} (hs : s.mods.fit .extended = true) :
    storeOp put f s =
      if f.ta = true ∨ isVec f.tb = true then misuse s
      else put (s.reg f.ra + s.mods.disp f.disp11) (s.srcSpec .signed f.tb f.rb 0) s := by
  rw [storeOp, withMods_fit _ _ _ hs]
  simp only [Bool.or_eq_true, State.storeAddress]

/-- STx with Func4 7 is STPTR (R446). -/
theorem exec_stx_pointer (f : StF) (s : State) : exec (.stx 7#4 f) s = exec (.stptr f) s := rfl

/-- STxX with Func4 7 is STPTR, indexed (R446). -/
theorem exec_stxX_pointer (f : StxF) (s : State) : exec (.stxX 7#4 f) s = exec (.stptrx f) s := rfl

/-- STPTR, displacement form, in each case of its type codes. -/
theorem exec_stptr (f : StF) {s : State} (hs : s.mods.fit .extended = true) :
    exec (.stptr f) s =
      if f.ta = true ∨ isVec f.tb = true then misuse s
      else storePointerAt (s.reg f.ra + s.mods.disp f.disp11) (s.srcSpec .signed f.tb f.rb 0) s :=
  storeOp_cases storePointerAt f hs

/-- STPTR, indexed form, in each case of its type codes and its scale. -/
theorem exec_stptrx (f : StxF) {s : State} (hs : s.mods.fit .plain = true) :
    exec (.stptrx f) s =
      if f.ta = true ∨ isVec f.tb = true ∨ isVec s.mods.rc.1 = true then misuse s
      else if 2 ≤ f.sc.toNat then .refused .reservedScale
      else storePointerAt (s.reg f.ra + s.opC .signed 0 * (if f.sc = 1#3 then 8#64 else 1#64))
        (s.srcSpec .signed f.tb f.rb 0) s :=
  storeXOp_cases 8 storePointerAt f hs

/-- Settles O37: the words of Func4 7 are STPTR's; each form in its cases; then the octa and the loop over the cards. -/
theorem storePointer : Obligations.StorePointer := by
  unfold Obligations.StorePointer
  simp only [exec_stx_pointer, exec_stxX_pointer, or_self, and_self]
  refine ⟨fun s f hs hv => ?misuse, fun s f hs => ⟨fun hv => ?misuseIndexed, fun ha hb hc hsc => ?scale⟩,
    fun s ea w o h => ?stores⟩
  case misuse =>
    rw [exec_stptr f hs, if_pos hv]
    exact misuse_raises s
  case misuseIndexed =>
    rw [exec_stptrx f hs, if_pos hv]
    exact misuse_raises s
  case scale => rw [exec_stptrx f hs, if_neg (by simp [ha, hb, hc]), if_pos hsc]
  case stores =>
    have ho : o = storePointerAt ea w s := by
      rcases h with ⟨f, hs, ha, hb, rfl, rfl, rfl⟩ | ⟨f, hs, ha, hb, hc, hsc, rfl, rfl, rfl⟩
      · rw [exec_stptr f hs, if_neg (by simp [ha, hb])]
      · rw [exec_stptrx f hs, if_neg (by simp [ha, hb, hc]), if_neg (Nat.not_le.2 hsc)]
    rw [ho]
    exact ⟨storePointerAt_next w, storePointerAt_refused w⟩

end Sys2Proof.Machine

/-! The conditional branches (O42) and CHK (O44): each branch runs the shared `branchOp` with a comparison of its own, and both
forms of CHK answer alike once their operands are read. -/

namespace Sys2Proof.Machine

/-! ## Conditional branches -/

/-- Settles O42: the shared branch, with each comparison read as one of integers, of naturals or of a bit. -/
theorem conditionalBranches : Obligations.ConditionalBranches :=
  have bitSet (a b : Word) : a.getLsbD (b.extractLsb' 0 6).toNat = true ↔ a.getLsbD (b.toNat % 64) = true := by
    rw [toNat_shiftCount]
  ⟨branchOp_form .beq _ _ (fun a b => a == b) (fun _ _ => by rfl) fun _ _ => beq_iff_eq,
    branchOp_form .bne _ _ (fun a b => a != b) (fun _ _ => by rfl) fun _ _ => bne_iff_ne,
    branchOp_form .blt _ _ _ (fun _ _ => by rfl) slt_iff_toInt,
    branchOp_form .bge _ _ (fun a b => b.sle a) (fun _ _ => by rfl) fun a b => sle_iff_toInt b a,
    branchOp_form .bltu _ _ _ (fun _ _ => by rfl) ult_iff_toNat,
    branchOp_form .bgeu _ _ (fun a b => b.ule a) (fun _ _ => by rfl) fun a b => ule_iff_toNat b a,
    branchOp_form .bbs _ _ _ (fun _ _ => by rfl) bitSet,
    branchOp_form .bgt _ _ _ (fun _ _ => by rfl) slt_iff_toInt,
    branchOp_form .ble _ _ (fun a b => b.sle a) (fun _ _ => by rfl) fun a b => sle_iff_toInt b a,
    branchOp_form .bgtu _ _ _ (fun _ _ => by rfl) ult_iff_toNat,
    branchOp_form .bleu _ _ (fun a b => b.ule a) (fun _ _ => by rfl) fun a b => ule_iff_toNat b a⟩

/-! ## CHK -/

/-- Within the bounds CHK only goes on; outside it takes BoundsCheck with its cause code (R479, R611). -/
theorem checkOp_checked (s : State) {ok : Bool} {holds : Prop} (hok : ok = true ↔ holds) :
    checked holds s (checkOp ok s) := by
  refine ⟨fun h => ?_, fun h => ?_⟩
  · rw [checkOp, if_pos (hok.2 h)]
    exact ⟨_, rfl, onlyAdvanced_advance s⟩
  · rw [checkOp, if_neg (mt hok.1 h)]
    exact ⟨_, rfl, trapped_takeTrap s _⟩

/-- What both forms of CHK answer: `v` is refused before an operand that misuses a vector register raises, and the bounds
are checked last. -/
theorem chk_cases {s : State} {v vectorOperand ok : Bool} {misused holds : Prop} [Decidable misused] {o : Out}
    (ho : o = if v then .refused .vectorCheck else if vectorOperand then misuse s else checkOp ok s)
    (hv : vectorOperand = true ↔ misused) (hok : ok = true ↔ holds) :
    if v = true then o = .refused .vectorCheck
    else if misused then nextWith o (raisedUnimplemented s)
    else checked holds s o := by
  subst ho
  by_cases hvec : v = true
  · rw [if_pos hvec, if_pos hvec]
  rw [if_neg hvec, if_neg hvec]
  by_cases hm : misused
  · rw [if_pos hm, if_pos (hv.2 hm)]
    exact misuse_raises s
  · rw [if_neg hm, if_neg (mt hv.1 hm)]
    exact checkOp_checked s hok

/-- Settles O44: each form, under modifiers it takes, answers one of the cases above on its own operands. -/
theorem boundsChecks : Obligations.BoundsChecks := by
  refine ⟨fun f s hs => ?immediate, fun f s hs => ?register⟩
  case immediate =>
    have ho : exec (.chkI f) s = _ := withMods_fit .extended s _ hs
    exact chk_cases ho (by simp only [Bool.or_eq_true]) (withinBounds_iff ..)
  case register =>
    have ho : exec (.chkR f) s = _ := withMods_fit .plain s _ hs
    exact chk_cases ho (by simp only [Bool.or_eq_true, or_assoc]) (withinBounds_iff ..)

end Sys2Proof.Machine

/-! System instructions that take, return from and redirect exceptions (O45, O46, O47), and the cells of the {SYS} map
without an effect (O52). -/

namespace Sys2Proof.Machine

/-! ## The trap sequence -/

/-- PMSTACK is pushed with the entry 10 (R620). -/
theorem State.takeTrap_pmstack_toNat (s : State) (c : Byte) :
    (s.takeTrap c).pmstack.toNat = (s.pmstack.toNat * 16 + 10) % 2 ^ 64 := by
  have hor : (s.pmstack.toNat <<< 4) + 10 = (s.pmstack.toNat <<< 4) ||| 10 :=
    Nat.shiftLeft_add_eq_or_of_lt (by decide) _
  show ((s.pmstack <<< 4) ||| 10#64).toNat = _
  rw [BitVec.toNat_or, BitVec.toNat_shiftLeft, show (10#64).toNat = 10 % 2 ^ 64 from rfl, ← Nat.or_mod_two_pow, ← hor,
    Nat.shiftLeft_eq]

/-- The pushed entry is that of debug mode with interrupts disabled (R43). -/
theorem State.takeTrap_pmNow (s : State) (c : Byte) : (s.takeTrap c).pmNow = (.debug, false) := by
  have hentry : (s.takeTrap c).pmstack.extractLsb' 0 4 = 10#4 := by
    apply BitVec.eq_of_toNat_eq
    rw [toNat_low, State.takeTrap_pmstack_toNat, show (10#4).toNat = 10 from rfl]
    omega
  rw [State.pmNow, hentry]
  exact if_pos rfl

/-- Settles O45: BRK's outcome is the trap sequence, which leaves the entry 10 on PMSTACK. -/
theorem breakAndTrapSequence : Obligations.BreakAndTrapSequence := by
  refine fun s c => ⟨withMods_fit _ _ _, ?_, s.takeTrap_pmstack_toNat c, congrArg Prod.fst (s.takeTrap_pmNow c),
    congrArg Prod.snd (s.takeTrap_pmNow c)⟩
  rw [← zext_ofNat]
  exact trapped_takeTrap s c

/-- Settles O52: an empty cell raises as a misused type code does; the named cells have one outcome throughout. -/
theorem systemCellsWithoutEffect : Obligations.SystemCellsWithoutEffect := fun s _ _ =>
  ⟨misuse_raises s, List.map_eq_replicate_iff.1 rfl⟩

/-! ## RTE -/

/-- An operand of RTE (R522): none for a vector register, else the immediate or the register. -/
theorem State.rteOperand_eq (s : State) (immediate : Bool) (x : BitVec 6) :
    s.rteOperand immediate x = if immediate = false ∧ x.msb = true then none
      else some (if immediate then BitVec.ofNat 64 x.toNat else s.reg (x.setWidth 5)) := by
  cases immediate <;> simp [State.rteOperand, sysVec_eq, sysReg_eq, zext_ofNat]

/-- The return clears semaphore 0 and the chosen one, and no other (R522). -/
theorem State.sem_returnFromTrap (s : State) (offset : Word) (n : BitVec 6) {i : Nat} (hi : i < 64) :
    (s.returnFromTrap offset n).sem.getLsbD i =
      (s.sem.getLsbD i && decide (i ≠ 0) && decide (i ≠ n.toNat)) := by
  have hshift : (1#64 <<< n.toNat).getLsbD i = decide (i = n.toNat) := by
    rw [← BitVec.twoPow_eq, BitVec.getLsbD_twoPow, decide_eq_true n.isLt, Bool.true_and]
    exact decide_eq_decide.2 eq_comm
  show (s.sem &&& ~~~(1#64 ||| 1#64 <<< n.toNat)).getLsbD i = _
  rw [BitVec.getLsbD_and, BitVec.getLsbD_not, BitVec.getLsbD_or, hshift, BitVec.getLsbD_one, decide_eq_true hi]
  simp [Bool.and_assoc, hi]

/-- The return changes PMSTACK, the semaphores and ip (R522, R630). -/
theorem State.returnFromTrap_frame (s : State) (offset : Word) (n : BitVec 6) :
    s.returnFromTrap offset n = { s with
      pmstack := BitVec.ofNat 64 (s.pmstack.toNat / 16), sem := (s.returnFromTrap offset n).sem
      ip := s.eip + 9#64 * offset, mods := Mods.empty } := by
  rw [← show s.pmstack >>> 4 = BitVec.ofNat 64 (s.pmstack.toNat / 16) from ushiftRight_ofNat s.pmstack 4]
  rfl

/-- Settles O46: a vector register leaves an operand without a value; where both have one, RTE returns. -/
theorem returnFromException : Obligations.ReturnFromException := by
  intro f s hs
  have ho : exec (.rte f) s = _ := withMods_fit .plain s _ hs
  rw [State.rteOperand_eq, State.rteOperand_eq] at ho
  by_cases ha : f.rt6.getLsbD 0 = false ∧ f.ra6.msb = true
  · rw [if_pos ha] at ho
    dsimp only
    rw [if_pos (.inl ha), ho]
    exact misuse_raises s
  by_cases hb : f.rt6.getLsbD 1 = false ∧ f.rb6.msb = true
  · rw [if_neg ha, if_pos hb] at ho
    dsimp only
    rw [if_pos (.inr hb), ho]
    exact misuse_raises s
  rw [if_neg ha, if_neg hb] at ho
  dsimp only
  rw [if_neg (not_or.2 ⟨ha, hb⟩), ho]
  refine ⟨_, rfl, s.returnFromTrap_frame _ _, fun i hi => ?_⟩
  rw [State.sem_returnFromTrap s _ _ hi, toNat_shiftCount]

/-! ## REX -/

/-- The modes a redirection can name are those below debug mode, by their numbers (R520). -/
theorem lowerMode_of_index {m : Mode} (hm : m ≠ .debug) {tm : BitVec 3} (h : m.index.val = tm.toNat) :
    lowerMode tm = some m := by
  have htm : tm = BitVec.ofNat 3 m.index.val := by rw [h, BitVec.ofNat_toNat, BitVec.setWidth_eq]
  subst htm
  cases m with
  | debug => exact absurd rfl hm
  | user | supervisor | hypervisor | machine => rfl

/-- Every number below 4 is that of a mode below debug mode. -/
theorem exists_mode_of_lt {n : Nat} (h : n < 4) : ∃ m : Mode, m ≠ .debug ∧ m.index.val = n := by
  match n, h with
  | 0, _ => exact ⟨.user, nofun, rfl⟩
  | 1, _ => exact ⟨.supervisor, nofun, rfl⟩
  | 2, _ => exact ⟨.hypervisor, nofun, rfl⟩
  | 3, _ => exact ⟨.machine, nofun, rfl⟩

/-- No mode has a number from 4 up as a redirection's target. -/
theorem lowerMode_none : ∀ {tm : BitVec 3}, 4 ≤ tm.toNat → lowerMode tm = none := by decide

/-- A table of `rex_enabled` has a bit for each mode below debug mode (log 38). -/
theorem State.rexEnabled_table {s : State} {m : Mode} {v : Vector Bool 4} (h : m.index.val < 4)
    (hv : s.cfg.rexEnabled = .table v) : s.rexEnabled m = v[m.index.val] := by
  cases m with
  | debug => exact absurd h (by decide)
  | user | supervisor | hypervisor | machine =>
    simp only [State.rexEnabled, hv]
    rfl

/-- The open `rex_enabled` decides on every mode but debug mode (log 38). -/
theorem State.rexEnabled_other {s : State} {m : Mode} {n : Nat} (hm : m ≠ .debug) (hn : s.cfg.rexEnabled = .other n) :
    s.rexEnabled m = Config.rexEnabledBy n s m := by
  cases m with
  | debug => exact absurd rfl hm
  | user | supervisor | hypervisor | machine => simp only [State.rexEnabled, hn]

/-- The entry that a redirection puts on PMSTACK is its target's, with interrupts disabled (R43, R651). -/
theorem State.pmDecode_rexEntry {s : State} (hwf : s.cfg.wf = true) (m : Mode) :
    s.cfg.pmDecode (s.rexEntry m) = (m, false) := by
  simp only [Params.wf, Bool.and_eq_true, beq_iff_eq] at hwf
  obtain ⟨⟨⟨⟨-, huser⟩, hsupervisor⟩, hhypervisor⟩, hmachine⟩ := hwf
  cases m with
  | user => exact huser
  | supervisor => exact hsupervisor
  | hypervisor => exact hhypervisor
  | machine => exact hmachine
  | debug => exact if_pos rfl

/-- After a redirection the current PMSTACK entry is the one put there. -/
theorem State.redirect_pmNow (s : State) (m : Mode) (entry : BitVec 4) :
    (s.redirect m entry).pmNow = s.cfg.pmDecode entry :=
  congrArg s.cfg.pmDecode BitVec.extractLsb'_append_eq_right

/-- A redirection keeps the PMSTACK entries above the current one. -/
theorem State.redirect_pmstack_above (s : State) (m : Mode) (entry : BitVec 4) :
    (s.redirect m entry).pmstack.extractLsb' 4 60 = s.pmstack.extractLsb' 4 60 :=
  BitVec.extractLsb'_append_eq_left

/-- The target field of REX. -/
theorem toNat_rexTarget (x : BitVec 6) : (x.extractLsb' 0 3).toNat = x.toNat % 8 := by
  rw [extractLsb'_zero_eq, BitVec.toNat_setWidth]

/-- REX to a number from 4 up (R520). -/
theorem exec_rex_none {f : SysF} {s : State} (hs : s.mods.fit .plain = true) (h : 4 ≤ f.ra6.toNat % 8) :
    exec (.rex f) s = .refused .rexTarget := by
  have ho : exec (.rex f) s = _ := withMods_fit .plain s _ hs
  rw [ho, lowerMode_none (by rwa [toNat_rexTarget])]

/-- REX to a mode below debug mode (R520). -/
theorem exec_rex_mode {f : SysF} {s : State} (hs : s.mods.fit .plain = true) {m : Mode} (hm : m ≠ .debug)
    (h : m.index.val = f.ra6.toNat % 8) :
    exec (.rex f) s =
      if s.mode.index.val ≤ m.index.val then .refused .rexTarget
      else if s.rexEnabled m then .next (s.redirect m (s.rexEntry m))
      else .next s.advance := by
  have ho : exec (.rex f) s = _ := withMods_fit .plain s _ hs
  rw [ho, lowerMode_of_index hm (h.trans (toNat_rexTarget f.ra6).symm)]

/-- Settles O47: a target that is no lower mode, the two forms of `rex_enabled`, and a lower mode, not enabled and
enabled. -/
theorem redirectException : Obligations.RedirectException := by
  refine fun f s hs => ⟨fun h => ?target, fun m v h hv => State.rexEnabled_table h hv,
    fun m n hm hn => State.rexEnabled_other hm hn, fun m h hlow hm => ?lower⟩
  case target =>
    rcases Nat.lt_or_ge (f.ra6.toNat % 8) 4 with hlt | hge
    · obtain ⟨m, hm, hindex⟩ := exists_mode_of_lt hlt
      have hnotLower : s.mode.index.val ≤ m.index.val := hindex ▸ h.resolve_left (Nat.not_le.2 hlt)
      rw [exec_rex_mode hs hm hindex, if_pos hnotLower]
    · exact exec_rex_none hs hge
  case lower =>
    rw [exec_rex_mode hs hm h, if_neg (Nat.not_le.2 hlow)]
    refine ⟨fun hoff => ?_, fun hon => ?_⟩
    · rw [hoff]
      exact ⟨_, rfl, onlyAdvanced_advance s⟩
    · rw [hon]
      refine ⟨_, rfl, rfl, s.redirect_pmstack_above m _, fun hwf => ?_⟩
      have hnow : (s.redirect m (s.rexEntry m)).pmNow = (m, false) :=
        (s.redirect_pmNow m _).trans (State.pmDecode_rexEntry hwf m)
      exact ⟨congrArg Prod.fst hnow, congrArg Prod.snd hnow⟩

end Sys2Proof.Machine

/-! The queue instructions (O49): what each operation on a queue does, then the forms with the number in a register and in an
immediate. -/

namespace Sys2Proof.Machine

/-! ## Queues -/

/-- Replacing a queue changes nothing else. -/
theorem State.setQueue_replaced (s : State) (q : BitVec 6) (l : List Word) : queueReplaced q l s (s.setQueue q l) :=
  ⟨rfl, fun k => s.queue_setQueue q k l⟩

/-- The low QUEUE_WIDTH bits of a word, as a remainder (R511). -/
theorem queueValue_mod (p : Params) (w : Word) : queueValue p w = BitVec.ofNat 64 (w.toNat % 2 ^ p.queueWidth) := by
  apply BitVec.eq_of_getLsbD_eq
  intro i hi
  rw [queueValue, BitVec.getLsbD_and, BitVec.getLsbD_ushiftRight, BitVec.getLsbD_allOnes, BitVec.getLsbD_ofNat,
    Nat.testBit_mod_two_pow, decide_eq_true hi, Bool.true_and, Bool.and_comm]
  exact congrArg (· && _) (decide_eq_decide.2 (by omega))

/-- The status word as a number (R514): its flag is above the ten bits of the count. -/
theorem queueStatus_ofNat (l : List Word) :
    queueStatus l = BitVec.ofNat 64 ((if l.length = 0 then 2 ^ 63 else 2 ^ 62) + l.length % 1024) := by
  have hcount : (BitVec.ofNat 10 l.length).setWidth 64 = BitVec.ofNat 64 (l.length % 1024) :=
    zext_ofNat (BitVec.ofNat 10 l.length)
  cases l with
  | nil => rfl
  | cons w rest =>
    have hlow : (w :: rest).length % 1024 < 2 ^ 62 := Nat.lt_trans (Nat.mod_lt _ (by decide)) (by decide)
    have hflag : 1#64 <<< 62 = BitVec.ofNat 64 (1 <<< 62) := by decide
    have hne : ¬ (w :: rest).length = 0 := Nat.succ_ne_zero _
    rw [queueStatus, List.isEmpty_cons, if_neg Bool.false_ne_true, if_neg hne, hcount, hflag, ← BitVec.ofNat_or,
      ← Nat.shiftLeft_add_eq_or_of_lt hlow 1, Nat.one_shiftLeft]

/-- PUSH (R511). -/
theorem pushTo_pushed (q : BitVec 6) (w : Word) (s : State) : pushed q w s (pushTo q w s) := by
  unfold pushed pushTo
  rw [← queueValue_mod]
  split
  · exact ⟨_, rfl, _, s.setQueue_replaced q _, onlyAdvanced_advance _⟩
  · rfl

/-- What POP and PEEK answer of an empty queue: a free value, one more of which is used (log 6). -/
theorem freeRead_wroteReg (s : State) (rt : RegNo) (w : Word) :
    nextWith (.next ({ s with free := s.free + 1 }.setReg rt w).advance)
      (fun t => ∃ v, wroteReg rt v { s with free := t.free } t) := by
  refine ⟨_, rfl, w, ?_⟩
  rw [State.advance_free, State.setReg_free]
  exact wroteReg_setReg { s with free := s.free + 1 } rt w

/-- POP (R512). -/
theorem popFrom_popped (q : BitVec 6) (rt : RegNo) (s : State) : popped q rt s (popFrom q rt s) := by
  unfold popped popFrom
  cases s.queue q with
  | nil => exact freeRead_wroteReg s rt _
  | cons w rest => exact ⟨_, rfl, _, s.setQueue_replaced q rest, wroteReg_setReg ..⟩

/-- PEEK (R513). -/
theorem peekFrom_peeked (q : BitVec 6) (rt : RegNo) (s : State) : peeked q rt s (peekFrom q rt s) := by
  unfold peeked peekFrom
  cases s.queue q with
  | nil => exact freeRead_wroteReg s rt _
  | cons w rest => exact ⟨_, rfl, wroteReg_setReg ..⟩

/-- STAT (R514). -/
theorem statOf_statRead (q : BitVec 6) (rt : RegNo) (s : State) : statRead q rt s (statOf q rt s) := by
  unfold statRead statOf
  rw [← queueStatus_ofNat]
  exact ⟨_, rfl, wroteReg_setReg ..⟩

/-- A system instruction with register fields, under modifiers it takes: it runs where no field names a vector register and
else raises (R172; log 13). -/
theorem scalarFields_cases {s : State} {vectorField : Bool} {k o : Out} {p : Out → Prop} (hs : s.mods.fit .plain = true)
    (ho : o = withMods .plain s (if vectorField then misuse s else k)) (hk : p k) :
    (vectorField = false → p o) ∧ (vectorField = true → nextWith o (raisedUnimplemented s)) := by
  rw [withMods_fit _ _ _ hs] at ho
  subst ho
  cases vectorField with
  | false => exact ⟨fun _ => hk, nofun⟩
  | true => exact ⟨nofun, fun _ => misuse_raises s⟩

/-- Settles O49: every form behind its register fields is one of the four operations. -/
theorem queues : Obligations.Queues := by
  intro f s hs
  have push := scalarFields_cases hs (o := exec (.push f) s) rfl (pushTo_pushed _ _ s)
  have pushi := scalarFields_cases hs (o := exec (.pushi f) s) rfl (pushTo_pushed _ _ s)
  have pop := scalarFields_cases hs (o := exec (.pop f) s) rfl (popFrom_popped _ _ s)
  have popi := scalarFields_cases hs (o := exec (.popi f) s) rfl (popFrom_popped _ _ s)
  have peek := scalarFields_cases hs (o := exec (.peek f) s) rfl (peekFrom_peeked _ _ s)
  have peeki := scalarFields_cases hs (o := exec (.peeki f) s) rfl (peekFrom_peeked _ _ s)
  have stat := scalarFields_cases hs (o := exec (.stat f) s) rfl (statOf_statRead _ _ s)
  have stati := scalarFields_cases hs (o := exec (.stati f) s) rfl (statOf_statRead _ _ s)
  simp only [sysVec_eq, sysReg_eq, extractLsb'_zero_eq, Bool.or_eq_false_iff, Bool.or_eq_true, and_imp]
    at push pushi pop popi peek peeki stat stati
  exact ⟨push.1, pushi.1, fun ha ht => ⟨pop.1 ha ht, peek.1 ha ht, stat.1 ha ht⟩,
    fun ht => ⟨popi.1 ht, peeki.1 ht, stati.1 ht⟩, push.2, pushi.2, fun h => ⟨pop.2 h, peek.2 h, stat.2 h⟩,
    fun h => ⟨popi.2 h, peeki.2 h, stati.2 h⟩⟩

end Sys2Proof.Machine

/-! Mask registers: the operations on two masks (O54), the moves between masks, VL and scalar registers (O55), and the
set-mask comparisons (O56). -/

namespace Sys2Proof.Machine

/-! ## Masks as numbers -/

/-- Cutting a value to the bits of a mask register is taking it modulo 2^VLMAX (R570 to R577). -/
theorem toNat_and_maskBits {n : Nat} (hn : n ≤ 128) (x : BitVec 128) : (x &&& maskBits n).toNat = x.toNat % 2 ^ n := by
  have hbits : (maskBits n).toNat = 2 ^ n - 1 := by
    obtain hlt | rfl := Nat.lt_or_eq_of_le hn
    · have hpow : 2 ^ n < 2 ^ 128 := Nat.pow_lt_pow_right (by decide) hlt
      have hpos : 0 < 2 ^ n := Nat.two_pow_pos n
      rw [maskBits, BitVec.toNat_sub, BitVec.toNat_shiftLeft, BitVec.toNat_ofNat, Nat.mod_eq_of_lt (a := 1) (by decide),
        Nat.one_shiftLeft]
      omega
    · decide
  rw [BitVec.toNat_and, hbits, Nat.and_two_pow_sub_one_eq_mod]

/-- A mask operation on two masks whose formula is `g`. -/
theorem maskOp_form (c : Vm3F → Instr) (g g' : BitVec 128 → BitVec 128 → BitVec 128)
    (hc : ∀ f s, exec (c f) s = maskOp g' f s) (h : ∀ a b, g' a b = g a b) : maskForm c g := by
  intro f s hs
  rw [hc, maskOp, withMods_fit _ _ _ hs, h]
  exact ⟨_, rfl, wroteMask_setMask s f.vmt _⟩

theorem mask_add_ofNat (a b : BitVec 128) : a + b = BitVec.ofNat 128 (a.toNat + b.toNat) := by
  apply BitVec.eq_of_toNat_eq
  rw [BitVec.toNat_add, BitVec.toNat_ofNat]

theorem mask_sub_ofInt (a b : BitVec 128) : a - b = BitVec.ofInt 128 ((a.toNat : Int) - b.toNat) := by
  apply BitVec.eq_of_toNat_eq
  rw [BitVec.toNat_sub, BitVec.toNat_ofInt]
  omega

theorem mask_shiftLeft_ofNat (a : BitVec 128) (n : Nat) : a <<< n = BitVec.ofNat 128 (a.toNat * 2 ^ n) := by
  apply BitVec.eq_of_toNat_eq
  rw [BitVec.toNat_shiftLeft, BitVec.toNat_ofNat, Nat.shiftLeft_eq]

theorem mask_ushiftRight_ofNat (a : BitVec 128) (n : Nat) : a >>> n = BitVec.ofNat 128 (a.toNat / 2 ^ n) := by
  apply BitVec.eq_of_toNat_eq
  rw [BitVec.toNat_ushiftRight, BitVec.toNat_ofNat, Nat.shiftRight_eq_div_pow,
    Nat.mod_eq_of_lt (Nat.lt_of_le_of_lt (Nat.div_le_self _ _) a.isLt)]

/-- Settles O54: each operation writes its formula's value, and the write cuts it to VLMAX bits. -/
theorem maskOperations : Obligations.MaskOperations := by
  refine ⟨maskOp_form .mand _ _ (fun _ _ => by rfl) fun _ _ => rfl,
    maskOp_form .morM _ _ (fun _ _ => by rfl) fun _ _ => rfl,
    maskOp_form .mxorM _ _ (fun _ _ => by rfl) fun _ _ => rfl,
    maskOp_form .mnand _ _ (fun _ _ => by rfl) fun _ _ => rfl,
    maskOp_form .mnor _ _ (fun _ _ => by rfl) fun _ _ => rfl,
    maskOp_form .mxnor _ _ (fun _ _ => by rfl) fun _ _ => rfl,
    maskOp_form .madd _ _ (fun _ _ => by rfl) mask_add_ofNat,
    maskOp_form .msub _ _ (fun _ _ => by rfl) mask_sub_ofInt,
    fun f s hs => ⟨?_, ?_⟩, fun _ hn x => toNat_and_maskBits hn x⟩
  · rw [← mask_shiftLeft_ofNat]
    exact ⟨_, withMods_fit _ _ _ hs, wroteMask_setMask s f.vmt _⟩
  · rw [← mask_ushiftRight_ofNat]
    exact ⟨_, withMods_fit _ _ _ hs, wroteMask_setMask s f.vmt _⟩

/-! ## From a mask to a scalar register -/

/-- A mask read whose formula, which may depend on the parameters, gives a value of which `r` holds. -/
theorem maskGetOp_form (c : VmGetF → Instr) (r : Params → BitVec 128 → Word → Prop) (g : Params → BitVec 128 → Word)
    (hc : ∀ f s, exec (c f) s = maskGetOp (g s.cfg) f s) (h : ∀ p m, r p m (g p m)) : maskReadForm c r := by
  intro f s hs
  rw [hc, maskGetOp, withMods_fit _ _ _ hs]
  split
  · exact ⟨_, h s.cfg (s.mask f.vm), _, rfl, wroteReg_setReg s f.rt _⟩
  · exact misuse_raises s

theorem lowestBit?_zero (n : Nat) : lowestBit? (0#n) = none :=
  List.find?_eq_none.2 fun _ _ => by rw [BitVec.getLsbD_zero]; exact Bool.false_ne_true

theorem lowestBit?_eq_some {n k : Nat} {x : BitVec n} (hone : x.getLsbD k = true)
    (hzero : ∀ j < k, x.getLsbD j = false) : lowestBit? x = some k := by
  rw [lowestBit?, List.find?_range_eq_some]
  exact ⟨hone, List.mem_range.2 (BitVec.lt_of_getLsbD hone), fun j hj => by rw [hzero j hj, Bool.not_false]⟩

/-- CNTLZ of a mask (R579): the leading zeros of the 128 stored bits, less those that do not exist. -/
theorem leadingZeros_below {v : Nat} (hv : v ≤ 128) (m : BitVec 128) :
    leadingZeros m - (128 - v) = if m = 0#128 then v else v - 1 - m.toNat.log2 := by
  rw [show leadingZeros m = if m = 0#128 then 128 else 127 - m.toNat.log2 from leadingZeros_log2 m]
  by_cases hm : m = 0#128
  · rw [if_pos hm, if_pos hm]
    omega
  · have hne : m.toNat ≠ 0 := fun h => hm (BitVec.eq_of_toNat_eq h)
    have hlog : m.toNat.log2 < 128 := (Nat.log2_lt hne).2 m.isLt
    rw [if_neg hm, if_neg hm]
    omega

/-! ## From a scalar source to a mask -/

/-- A mask write from a scalar source: a vector type code raises, any other gives `g` of the source. -/
theorem maskPutOp_cases {f : VmPutF} {s : State} {o : Out} (g : Word → BitVec 128) (hs : s.mods.fit .plain = true)
    (ho : o = maskPutOp g f s) :
    (isVec f.ta2 = true → nextWith o (raisedUnimplemented s)) ∧
      (¬ isVec f.ta2 = true → nextWith o (wroteMask f.vmt (g (s.srcSpec .signed f.ta2 f.ra 0)) s)) := by
  rw [maskPutOp, withMods_fit _ _ _ hs] at ho
  subst ho
  refine ⟨fun hv => ?_, fun hv => ?_⟩
  · rw [s.scalarSpec_vector _ hv]
    exact misuse_raises s
  · rw [s.scalarSpec_scalar _ hv]
    exact ⟨_, rfl, wroteMask_setMask s f.vmt _⟩

/-- Settles O55: the reads by the value of each formula, the writes by their type code. -/
theorem maskMoves : Obligations.MaskMoves := by
  refine ⟨maskGetOp_form .mpop _ _ (fun _ _ => by rfl) fun _ m => congrArg (BitVec.ofNat 64) (popCount_card m),
    maskGetOp_form .mfirst _ (fun _ m => BitVec.ofNat 64 ((lowestBit? m).getD 128)) (fun _ _ => by rfl)
      fun _ m => ⟨fun hm => ?first_none, fun k hone hzero => ?first_some⟩,
    maskGetOp_form .mlast _ (fun _ m => BitVec.ofNat 64 ((highestBit? m).getD 128)) (fun _ _ => by rfl)
      fun _ m => ⟨fun hm => ?last_none, fun k hone hzero => ?last_some⟩,
    maskGetOp_form .mfm _ (fun _ m => m.setWidth 64) (fun _ _ => by rfl) fun _ m => ?low,
    maskGetOp_form .cntlzM _ (fun p m => BitVec.ofNat 64 (leadingZeros m - (128 - p.vlmax))) (fun _ _ => by rfl)
      fun _ m hv => congrArg (BitVec.ofNat 64) (leadingZeros_below hv m),
    fun f s hs => ?put, fun f s hs => ?putVl, fun f s hs => ?getVl⟩
  case first_none => rw [hm, lowestBit?_zero, Option.getD_none]
  case first_some => rw [lowestBit?_eq_some hone hzero, Option.getD_some]
  case last_none => rw [hm, highestBit?_eq_none fun j => BitVec.getLsbD_zero, Option.getD_none]
  case last_some => rw [highestBit?_eq_some (BitVec.lt_of_getLsbD hone) hone hzero, Option.getD_some]
  case low =>
    apply BitVec.eq_of_toNat_eq
    rw [BitVec.toNat_setWidth, BitVec.toNat_ofNat, Nat.mod_mod]
  case put =>
    have ⟨fillRaises, fill⟩ := maskPutOp_cases (f := f) (fun a => bitsOf 128 (fun x => decide (x < a.toNat))) hs
      (o := exec (.mfill f) s) (by rfl)
    have ⟨moveRaises, move⟩ := maskPutOp_cases (f := f) (fun a => a.setWidth 128) hs (o := exec (.mtm f) s) (by rfl)
    split
    · next hv => exact ⟨fillRaises hv, moveRaises hv⟩
    · next hv =>
      obtain ⟨t, ht, hmask⟩ := fill hv
      refine ⟨⟨t, ht, _, hmask, fun i hi => ?_⟩, ?_⟩
      · rw [getLsbD_bitsOf, decide_eq_true hi, Bool.true_and]
      · rw [BitVec.ofNat_toNat]
        exact move hv
  case putVl =>
    rw [show exec (.mtvl f) s = execMtvl f s from rfl, execMtvl, withMods_fit _ _ _ hs]
    split
    · next hv =>
      rw [s.scalarSpec_vector _ hv]
      exact misuse_raises s
    · next hv =>
      rw [s.scalarSpec_scalar _ hv]
      exact ⟨_, rfl, rfl⟩
  case getVl =>
    rw [show exec (.mfvl f) s = execMfvl f s from rfl, execMfvl, withMods_fit _ _ _ hs]
    split
    · exact ⟨_, rfl, wroteReg_setReg s f.rt _⟩
    · exact misuse_raises s

/-! ## Set-mask comparisons -/

/-- A set-mask comparison whose codes below 4, and no others, decide `cond`. -/
theorem setMaskOp_form (c : SetMaskF → Instr) (k : ConstKind) (cond : BitVec 3 → Word → Word → Prop)
    (g : BitVec 3 → Word → Word → Option Bool) (hc : ∀ f s, exec (c f) s = setMaskOp k g f s)
    (hreserved : ∀ x a b, 4 ≤ x.toNat → g x a b = none)
    (hvalid : ∀ x a b, x.toNat < 4 → ∃ v, g x a b = some v ∧ (v = true ↔ cond x a b)) : setMaskForm c k cond := by
  intro f s hs
  rw [hc, setMaskOp, withMods_fit _ _ _ hs]
  split
  · next hl => exact withVl_gt _ _ hl
  next hl =>
  rw [withVl_le _ _ (Nat.not_lt.1 hl)]
  split
  · next h4 => rw [hreserved _ _ _ h4, Option.isNone_none, if_pos rfl]
  next h4 =>
  obtain ⟨v, hv, -⟩ := hvalid f.cond 0#64 0#64 (Nat.not_le.1 h4)
  rw [hv, Option.isNone_some, if_neg Bool.false_ne_true]
  refine ⟨_, ⟨_, rfl, wroteMask_setMask s f.vmt _⟩, fun e he => ?_⟩
  rw [getLsbD_bitsOf, decide_eq_true he, Bool.true_and]
  refine ⟨fun hge => ?above, fun hlt hact => ?active, fun hlt hact => ?inactive⟩
  case above => rw [if_neg (show ¬ e < s.vlen from Nat.not_lt.2 hge)]
  case active =>
    obtain ⟨u, hu, hcond⟩ := hvalid f.cond (s.srcA f.ta f.ra e) (s.srcSpec k f.tb f.rb e) (Nat.not_le.1 h4)
    rw [if_pos (show e < s.vlen from hlt), if_pos hact, hu]
    exact hcond
  case inactive =>
    rw [if_pos (show e < s.vlen from hlt), hact, if_neg Bool.false_ne_true]
    cases zeroing s.mods.maskSel <;> rfl

/-- The codes of a comparison (R585): four, and the reserved ones. -/
theorem maskCode_cases (x : BitVec 3) : x = 0#3 ∨ x = 1#3 ∨ x = 2#3 ∨ x = 3#3 ∨ 4 ≤ x.toNat := by
  revert x
  decide

theorem maskCondition_reserved {x : BitVec 3} (a b : Word) (h : 4 ≤ x.toNat) : maskCondition x a b = none := by
  unfold maskCondition
  split
  case h_5 => rfl
  all_goals exact absurd h (by decide)

theorem maskCondition_valid {x : BitVec 3} (a b : Word) (h : x.toNat < 4) : ∃ v, maskCondition x a b = some v ∧
    (v = true ↔ (x = 0#3 ∧ a = b) ∨ (x = 1#3 ∧ a ≠ b) ∨ (x = 2#3 ∧ a.toInt < b.toInt) ∨ (x = 3#3 ∧ a.toInt ≤ b.toInt)) := by
  obtain rfl | rfl | rfl | rfl | h4 := maskCode_cases x
  · exact ⟨a == b, rfl, by simp⟩
  · exact ⟨a != b, rfl, by simp⟩
  · exact ⟨a.slt b, rfl, by simp [slt_iff_toInt]⟩
  · exact ⟨a.sle b, rfl, by simp [sle_iff_toInt]⟩
  · exact absurd h4 (Nat.not_le.2 h)

theorem fpMaskCondition_reserved {x : BitVec 3} (a b : Word) (h : 4 ≤ x.toNat) : fpMaskCondition x a b = none := by
  unfold fpMaskCondition
  split
  case h_5 => rfl
  all_goals exact absurd h (by decide)

theorem fpMaskCondition_valid {x : BitVec 3} (a b : Word) (h : x.toNat < 4) : ∃ v, fpMaskCondition x a b = some v ∧
    (v = true ↔ (x = 0#3 ∧ fpCompare a b = .eq) ∨ (x = 1#3 ∧ fpCompare a b ≠ .eq) ∨ (x = 2#3 ∧ fpCompare a b = .lt) ∨
      (x = 3#3 ∧ (fpCompare a b = .lt ∨ fpCompare a b = .eq))) := by
  obtain rfl | rfl | rfl | rfl | h4 := maskCode_cases x
  · exact ⟨fpCompare a b == .eq, rfl, by simp⟩
  · exact ⟨fpCompare a b != .eq, rfl, by simp⟩
  · exact ⟨fpCompare a b == .lt, rfl, by simp⟩
  · exact ⟨fpCompare a b == .lt || fpCompare a b == .eq, rfl, by simp⟩
  · exact absurd h4 (Nat.not_le.2 h)

/-- Settles O56: one form, with the codes of integers and of doubles. -/
theorem setMaskComparisons : Obligations.SetMaskComparisons :=
  ⟨setMaskOp_form .setm _ _ _ (fun _ _ => by rfl) (fun _ => maskCondition_reserved) fun _ => maskCondition_valid,
    setMaskOp_form .fsetm _ _ _ (fun _ _ => by rfl) (fun _ => fpMaskCondition_reserved) fun _ => fpMaskCondition_valid⟩

end Sys2Proof.Machine

/-! The vector-specific instructions: mask bits and elements (O57), and one element in or out and the elements moved (O58). Each
checks its type codes, then VL, then runs. -/

namespace Sys2Proof.Machine

/-! ## Before the elements -/

/-- An instruction with `v = 1` only: `bad` type codes raise (R172; log 13), with fitting ones it is refused while VL exceeds
VLMAX (R552), and else it answers `k`. -/
structure VectorOnly (s : State) (bad : Bool) (o k : Out) : Prop where
  runs : bad = false → s.vl.toNat ≤ s.cfg.vlmax → o = k
  refuses : bad = false → s.cfg.vlmax < s.vl.toNat → o = .refused .vectorLength
  raises : bad = true → nextWith o (raisedUnimplemented s)

theorem vectorOnly_of_withVl {s : State} {bad : Bool} {o k : Out} (hs : s.mods.fit .plain = true)
    (ho : o = withMods .plain s (if bad then misuse s else withVl s k)) : VectorOnly s bad o k := by
  rw [withMods_fit _ _ _ hs] at ho
  subst ho
  cases bad with
  | false => exact ⟨fun _ => withVl_le s k, fun _ => withVl_gt s k, nofun⟩
  | true => exact ⟨nofun, nofun, fun _ => misuse_raises s⟩

/-! ## Elements and masks -/

/-- Bit `x` of a word, as VBITS2V writes it into an element (R581). -/
theorem boolWord_getLsbD (a : Word) (x : Nat) : boolWord (a.getLsbD x) = BitVec.ofNat 64 (a.toNat / 2 ^ x % 2) := by
  rw [BitVec.getLsbD, Nat.testBit_eq_decide_div_mod_eq]
  obtain h | h := Nat.mod_two_eq_zero_or_one (a.toNat / 2 ^ x) <;> rw [h] <;> rfl

/-- Adding a word once for each member of a list (VSCAN, R584). -/
theorem foldl_add_const {α : Type} (w acc : Word) (l : List α) :
    l.foldl (fun sum _ => sum + w) acc = acc + BitVec.ofNat 64 (w.toNat * l.length) := by
  induction l generalizing acc with
  | nil => exact (BitVec.add_zero acc).symm
  | cons _ l ih =>
    rw [List.foldl_cons, ih, List.length_cons, Nat.mul_succ, BitVec.ofNat_add, BitVec.ofNat_toNat, BitVec.setWidth_eq,
      BitVec.add_assoc, BitVec.add_comm w]

/-- Values of the active elements, packed at the bottom of a vector register (R582, R583). -/
theorem wroteElems_packed (s : State) (rt : RegNo) (m : MaskNo) (z : Bool) (h : Nat → Word) :
    wroteElems rt (packed z (activeElements s (some (m, z))).length (fun j => h ((activeElements s (some (m, z))).getD j 0))) s
      (s.setElems rt s.vlen (packedValue (some (m, z)) ((s.actives (some (m, z))).map h))).advance :=
  wroteElems_congr (fun e _ => packedValue_packed s (some (m, z)) h e) (wroteElems_setElems s rt _)

/-- Settles O57: each instruction behind its checks, with the value of its own formula. -/
theorem maskedVectorMoves : Obligations.MaskedVectorMoves := by
  intro f s hs
  have v2bits := vectorOnly_of_withVl hs (o := exec (.v2bits f) s) (by rfl)
  have vbits2v := vectorOnly_of_withVl hs (o := exec (.vbits2v f) s) (by rfl)
  have vcmprss := vectorOnly_of_withVl hs (o := exec (.vcmprss f) s) (by rfl)
  have vcidx := vectorOnly_of_withVl hs (o := exec (.vcidx f) s) (by rfl)
  have vscan := vectorOnly_of_withVl hs (o := exec (.vscan f) s) (by rfl)
  have toScalar (hv : f.v = true) (ha : f.ta = true) (ht : f.tt = false) : (!f.v || !f.ta || f.tt) = false := by
    rw [hv, ha, ht]
    rfl
  have fromScalar (hv : f.v = true) (ha : f.ta = false) (ht : f.tt = true) : (!f.v || f.ta || !f.tt) = false := by
    rw [hv, ha, ht]
    rfl
  have toVector (hv : f.v = true) (ht : f.tt = true) : (!f.v || !f.tt) = false := by
    rw [hv, ht]
    rfl
  refine ⟨fun hv hl => ⟨fun ha ht => ?v2bits, fun ha ht => ⟨?vbits2v, ?vcidx, ?vscan⟩, fun ht => ?vcmprss⟩,
    fun hv hl => ⟨fun ha ht => v2bits.refuses (toScalar hv ha ht) hl, fun ha ht => ?refused,
      fun ht => vcmprss.refuses (toVector hv ht) hl⟩,
    fun h => v2bits.raises (by simpa [or_assoc] using h), fun h => ?raised,
    fun h => vcmprss.raises (by simpa using h)⟩
  case v2bits =>
    rw [v2bits.runs (toScalar hv ha ht) hl]
    refine ⟨_, ⟨_, rfl, wroteReg_setReg s f.rt _⟩, fun x hx => ?_⟩
    rw [getLsbD_bitsOf, decide_eq_true hx, Bool.true_and]
    by_cases hlt : x < s.vlen
    · rw [if_pos hlt, ite_and, if_pos (show x < s.vl.toNat from hlt), ite_and, if_pos (show x < s.vl.toNat from hlt)]
      rfl
    · have hge : ¬ x < s.vl.toNat := hlt
      rw [if_neg hlt, if_neg fun h => hge h.1, if_neg fun h => hge h.1]
  case vbits2v =>
    rw [vbits2v.runs (fromScalar hv ha ht) hl]
    simp only [boolWord_getLsbD]
    exact ⟨_, rfl, wroteElems_lanes s f.rt _ _⟩
  case vcidx =>
    rw [vcidx.runs (fromScalar hv ha ht) hl]
    exact ⟨_, rfl, wroteElems_packed s f.rt f.m3 f.z fun x => s.reg f.ra * BitVec.ofNat 64 x⟩
  case vscan =>
    rw [vscan.runs (fromScalar hv ha ht) hl]
    simp only [foldl_add_const, BitVec.zero_add]
    exact ⟨_, rfl, wroteElems_setElems s f.rt _⟩
  case vcmprss =>
    rw [vcmprss.runs (toVector hv ht) hl]
    exact ⟨_, rfl, wroteElems_packed s f.rt f.m3 f.z (s.srcA f.ta f.ra)⟩
  case refused =>
    have fits := fromScalar hv ha ht
    exact ⟨vbits2v.refuses fits hl, vcidx.refuses fits hl, vscan.refuses fits hl⟩
  case raised =>
    have bad : (!f.v || f.ta || !f.tt) = true := by simpa [or_assoc] using h
    exact ⟨vbits2v.raises bad, vcidx.raises bad, vscan.raises bad⟩

/-! ## One element, and the elements moved -/

/-- Settles O58: each instruction behind its checks, with the value of its own formula. -/
theorem vectorInsertAndSlide : Obligations.VectorInsertAndSlide := by
  intro f s hs
  have veins := vectorOnly_of_withVl hs (o := exec (.veins f) s) (by rfl)
  have vex := vectorOnly_of_withVl hs (o := exec (.vex f) s) (by rfl)
  have vsllv := vectorOnly_of_withVl hs (o := exec (.vsllv f) s) (by rfl)
  have vsrlv := vectorOnly_of_withVl hs (o := exec (.vsrlv f) s) (by rfl)
  have insertFits (hv : f.v = true) (ha : f.ta = false) (ht : f.tt = true) (hb : isVec f.tb = false) :
      (!f.v || f.ta || !f.tt || isVec f.tb) = false := by
    rw [hv, ha, ht, hb]
    rfl
  have extractFits (hv : f.v = true) (ha : f.ta = false) (ht : f.tt = false) (hb : isVec f.tb = true) :
      (!f.v || f.ta || f.tt || !isVec f.tb) = false := by
    rw [hv, ha, ht, hb]
    rfl
  have slideFits (hv : f.v = true) (ht : f.tt = true) (hb : isVec f.tb = false) :
      (!f.v || !f.tt || isVec f.tb) = false := by
    rw [hv, ht, hb]
    rfl
  refine ⟨fun hv hl => ⟨fun ha ht hb he => ?insert, fun ha ht hb he => ?extract,
      fun ha he => ⟨fun ht hb => ?insertAbove, fun ht hb => ?extractAbove⟩, fun ht hb => ⟨?up, ?down⟩⟩,
    fun hv hl => ⟨fun ha ht hb => veins.refuses (insertFits hv ha ht hb) hl,
      fun ha ht hb => vex.refuses (extractFits hv ha ht hb) hl,
      fun ht hb => ⟨vsllv.refuses (slideFits hv ht hb) hl, vsrlv.refuses (slideFits hv ht hb) hl⟩⟩,
    fun h => veins.raises (by simpa [or_assoc] using h), fun h => vex.raises (by simpa [or_assoc] using h),
    fun h => ?raised⟩
  case insert =>
    rw [veins.runs (insertFits hv ha ht hb) hl, if_neg (Nat.not_le.2 he)]
    exact ⟨_, rfl, rfl, fun q e => s.elem_setElem f.rt q _ e _⟩
  case extract =>
    rw [vex.runs (extractFits hv ha ht hb) hl, if_neg (Nat.not_le.2 he), laneValue_eq_masked]
    cases masked s s.mods.maskSel (s.elem f.rb) (s.reg f.ra).toNat with
    | some w => exact ⟨_, rfl, wroteReg_setReg s f.rt w⟩
    | none => exact ⟨_, rfl, onlyAdvanced_advance s⟩
  case insertAbove => rw [veins.runs (insertFits hv ha ht hb) hl, if_pos he]
  case extractAbove => rw [vex.runs (extractFits hv ha ht hb) hl, if_pos he]
  case up =>
    rw [vsllv.runs (slideFits hv ht hb) hl]
    exact ⟨_, rfl, wroteElems_setElems s f.rt _⟩
  case down =>
    rw [vsrlv.runs (slideFits hv ht hb) hl]
    exact ⟨_, rfl, wroteElems_lanes s f.rt _ _⟩
  case raised =>
    have bad : (!f.v || !f.tt || isVec f.tb) = true := by simpa [or_assoc] using h
    exact ⟨vsllv.raises bad, vsrlv.raises bad⟩

end Sys2Proof.Machine

/-! The boundary of a step (O10): an enabled request before anything else, then a wait, then the bundle; and the environment's
next input. What the spec fixes at reset (O6). -/

namespace Sys2Proof.Machine

/-! ## Requests and waiting -/

/-- A request ends a wait (R528). -/
theorem boundary_request {s : State} {c : Byte} (hc : s.irq = some c) :
    boundary s = interruptOrRun { s with waiting := false } := by
  unfold boundary
  split
  · rw [hc]
  · next hw => rw [← Bool.eq_false_iff.2 hw]

/-- An enabled request is taken before the bundle (R615, R640). -/
theorem interruptOrRun_enabled {s : State} {c : Byte} (hc : s.irq = some c) (hi : s.interruptsEnabled = true) :
    interruptOrRun s = .next (s.takeTrap c) := by
  simp only [interruptOrRun, hc, hi, if_true]

/-- An enabled request is taken, and ends a wait (R528, R640; log 36). -/
theorem boundary_enabled {s : State} {c : Byte} (hc : s.irq = some c) (hi : s.interruptsEnabled = true) :
    boundary s = .next ({ s with waiting := false }.takeTrap c) :=
  (boundary_request hc).trans (interruptOrRun_enabled hc hi)

/-- A masked request ends a wait, and the bundle runs (R528). -/
theorem boundary_masked {s : State} {c : Byte} (hc : s.irq = some c) (hi : s.interruptsEnabled = false) :
    boundary s = runBundle maxBundle { s with waiting := false } :=
  have hawake : boundary { s with waiting := false } = interruptOrRun { s with waiting := false } := boundary_request hc
  (boundary_request hc).trans (hawake.symm.trans (boundary_runs rfl (.inr hi)))

/-- A wait without a request goes on (R528). -/
theorem boundary_waits {s : State} (hc : s.irq = none) (hw : s.waiting = true) : boundary s = .next s := by
  rw [boundary, if_pos hw, hc]

/-! ## The environment's next input -/

section Contents

variable {α : Type} [DecidableEq α] (d : α)

/-- A key that none of the writes names is unchanged. -/
theorem sparseGet_setAll_other {l m : List (Nat × α)} {p : Nat} (h : ∀ c ∈ l, c.1 ≠ p) :
    sparseGet d (l.foldl (fun m c => sparseSet d m c.1 c.2) m) p = sparseGet d m p := by
  induction l generalizing m with
  | nil => rfl
  | cons c l ih =>
    rw [List.foldl_cons, ih fun c hc => h c (List.mem_cons_of_mem _ hc), sparseGet_set, if_neg (h c List.mem_cons_self)]

/-- A key reads the last of the writes that names it. -/
theorem sparseGet_setAll_last {before after m : List (Nat × α)} {p : Nat} {v : α} (h : ∀ c ∈ after, c.1 ≠ p) :
    sparseGet d ((before ++ (p, v) :: after).foldl (fun m c => sparseSet d m c.1 c.2) m) p = v := by
  rw [List.foldl_append, List.foldl_cons, sparseGet_setAll_other d h, sparseGet_set, if_pos rfl]

end Contents

/-- What a device's byte reads from the next input on (R91; log 37). -/
theorem State.byteAt_takeDevice {s : State} {l : List Host.Cell} {p : Nat} (hp : s.isDevice p = true) :
    (s.takeDevice (some l)).byteAt p =
      sparseGet unlistedByte (l.foldl (fun m c => sparseSet unlistedByte m c.1 c.2) []) p := by
  have hdevice : (s.takeDevice (some l)).isDevice p = true := hp
  rw [State.byteAt, if_pos hdevice]
  rfl

/-- The trace queue's values from the next input on (R510). -/
theorem State.queue_takeTrace (s : State) (l : List Word) (q : BitVec 6) :
    (s.takeTrace (some l)).queue q = if q = 15#6 then
      (l.map (fun w => BitVec.ofNat 64 (w.toNat % 2 ^ s.cfg.queueWidth))).take s.cfg.queueDepth else s.queue q := by
  rw [State.takeTrace, State.queue_setQueue, funext (queueValue_mod s.cfg)]

@[simp] theorem State.takeTrace_device (s : State) (x : Option (List Word)) : (s.takeTrace x).device = s.device := by
  cases x <;> rfl

@[simp] theorem State.takeTrace_isDevice (s : State) (x : Option (List Word)) (p : Nat) :
    (s.takeTrace x).isDevice p = s.isDevice p := by
  cases x <;> rfl

@[simp] theorem State.takeDevice_queues (s : State) (x : Option (List Host.Cell)) : (s.takeDevice x).queues = s.queues := by
  cases x <;> rfl

theorem State.nextInput_cons {s : State} {x : EnvInput} {rest : List EnvInput} (h : s.env = x :: rest) :
    s.nextInput = ({ s with irq := x.irq, env := rest }.takeTrace x.trace).takeDevice x.device := by
  rw [State.nextInput, h]

/-- Settles O10: the three kinds of boundary, and the parts of an input. -/
theorem boundaryOfAStep : Obligations.BoundaryOfAStep := by
  intro s
  refine ⟨fun hc hw => congrArg thenNextInput (boundary_runs hw (.inl hc)), fun he => ?noInput, fun x rest he => ?input,
    fun c hc hi => ⟨_, ?trapped, congrArg thenNextInput (boundary_enabled hc hi)⟩,
    fun hc hw => congrArg thenNextInput (boundary_waits hc hw),
    fun c hc hi => congrArg thenNextInput (boundary_masked hc hi)⟩
  case noInput => rw [State.nextInput, he]
  case trapped => exact trapped_takeTrap _ c
  case input =>
    have hin := State.nextInput_cons he
    refine ⟨_, hin, ?frame, fun hx => ?sameQueues, fun l hx q => ?trace, fun hx => ?sameDevice, fun l p hx hp => ?device⟩
    case frame => cases x.trace <;> cases x.device <;> rfl
    case sameQueues => rw [State.takeDevice_queues, hx, State.takeTrace]
    case trace =>
      rw [State.queue, State.takeDevice_queues, hx]
      exact State.queue_takeTrace _ l q
    case sameDevice => rw [hx, State.takeDevice, State.takeTrace_device]
    case device =>
      have hpt : ({ s with irq := x.irq, env := rest }.takeTrace x.trace).isDevice p = true := by
        rw [State.takeTrace_isDevice]
        exact hp
      rw [hx, State.byteAt_takeDevice hpt]
      refine ⟨fun hnone => sparseGet_setAll_other unlistedByte hnone, fun before b after hl hafter => ?_⟩
      rw [hl]
      exact sparseGet_setAll_last unlistedByte hafter

/-- Settles O6: the values of `State.reset`, with every queue empty, 15 too. -/
theorem resetState : Obligations.ResetState :=
  ⟨State.reg_zero _, rfl, by decide, by decide, by decide, fun q _ => reset_queue q⟩

end Sys2Proof.Machine
